-- ==== Sys2Proof/Word.lean ====
section
/-!
DEFINITION. The values of the block (00_scope.md R12): bytes, byte sequences, UIDs, and the host's opaque values
(pins, callback references, strings).
-/

namespace Sys2Proof

/-- "A byte is an unsigned 8-bit value" (00_scope.md R12). -/
abbrev Byte := BitVec 8

/-- "A byte sequence `Bytes` is a finite list of bytes" (00_scope.md R12). -/
abbrev Bytes := List Byte

/-- A tag's UID, `LEN_UID` = 4 bytes in the order the response carries them (00_scope.md R8, 20_memory.md R56). -/
structure Uid where
  u0 : Byte
  u1 : Byte
  u2 : Byte
  u3 : Byte
deriving DecidableEq, Repr, Inhabited

/-- Which numbers name a pin: a free value, so that `PinId` is an open type (00_scope.md R8, D37; log 1). -/
opaque Config.isPin : Nat → Bool

/-- Which numbers name a callback: a free value, so that `HandlerRef` is an open type (00_scope.md R8, D37; log 1). -/
opaque Config.isHandler : Nat → Bool

/-- `PinId`, "any type with equality" (00_scope.md R8, D37; 93_implementation_defined.md I14).
DESIGN CHOICE (log 1): the names that the free value `Config.isPin` admits, and the name 0, so that there is one. -/
structure PinId where
  id : Nat
  admitted : id = 0 ∨ Config.isPin id = true
deriving DecidableEq, Repr

/-- `HandlerRef`, "any type" (00_scope.md R8, D37; 93_implementation_defined.md I14).
DESIGN CHOICE (log 1): the names that the free value `Config.isHandler` admits, and the name 0, so that there is one. -/
structure HandlerRef where
  id : Nat
  admitted : id = 0 ∨ Config.isHandler id = true
deriving DecidableEq, Repr

/-- The one pin that every reading of `PinId` has. -/
def somePin : PinId := ⟨0, .inl rfl⟩

/-- The one callback reference that every reading of `HandlerRef` has. -/
def someHandler : HandlerRef := ⟨0, .inl rfl⟩

/-- A host string (00_scope.md R12); the block sees it only through `P_UTF8_ENCODE` and `P_UTF8_DECODE`.
DESIGN CHOICE (log 2): a list of characters. -/
abbrev HostString := List Char

end Sys2Proof
end

