-- ==== Sys2Proof/Machine/Checksum.lean ====
section
/-!
DEFINITION. The ChecksumCodec (40_checksum.md): COMPUTE_CHECKSUM, FILL_CHECKSUM, VERIFY_CHECKSUM.
-/

namespace Sys2Proof.Machine

/-- `not8(v)` is `v xor 0xFF` (00_scope.md R12). -/
def not8 (v : Byte) : Byte := v ^^^ 0xFF#8

/-- The XOR of all bytes of a sequence, accumulated from the first (the loop of R120). -/
def xorFold (f : Bytes) : Byte := f.foldl (fun acc b => acc ^^^ b) 0#8

/-- COMPUTE_CHECKSUM (R120): "XOR-fold every byte except the last, then bitwise-NOT the result". -/
def computeChecksum (f : Bytes) : Byte := not8 (xorFold f.dropLast)

/-- FILL_CHECKSUM (R121): the last byte becomes the checksum. The rule's precondition is a non-empty frame; the
empty sequence has no last byte and stays empty. -/
def fillChecksum (f : Bytes) : Bytes :=
  match f with
  | [] => []
  | b :: rest => (b :: rest).dropLast ++ [computeChecksum (b :: rest)]

/-- VERIFY_CHECKSUM (R122): `r[n-1] == COMPUTE_CHECKSUM(r)`. -/
def verifyChecksum (r : Bytes) : Bool := r.getLast? == some (computeChecksum r)

end Sys2Proof.Machine
end

