-- ==== Sys2Proof/Syntax.lean ====
section
/-!
DEFINITION. The instructions of the block, one constructor for each row of spec/opcode_table.json: the twelve host
operations (30_encoding.md R100), the three request frames the block emits (R81 to R83) and the three response
frames it accepts (R90 to R92); and the forms in which each travels.
-/

namespace Sys2Proof

/-- The instructions. A host operation carries its operands (R101); a frame carries its variable fields. -/
inductive Instr where
  /-- INIT tx, rx (op 0x01). -/
  | init (tx rx : PinId)
  /-- DISCONNECT (op 0x02). -/
  | disconnect
  /-- RECONNECT (op 0x03). -/
  | reconnect
  /-- REGISTER_HANDLER h (op 0x04). -/
  | registerHandler (h : HandlerRef)
  /-- QUERY_UID (op 0x05), the host operation. -/
  | queryUid
  /-- IS_INITIALIZED (op 0x06). -/
  | isInitialized
  /-- IS_CARD_PRESENT (op 0x07). -/
  | isCardPresent
  /-- WRITE_TEXT s (op 0x08). -/
  | writeText (text : HostString)
  /-- READ_TEXT (op 0x09). -/
  | readText
  /-- WRITE_BYTES b (op 0x0A). -/
  | writeBytes (data : Bytes)
  /-- READ_BYTES (op 0x0B). -/
  | readBytes
  /-- HANDLER_DONE (op 0x0C). -/
  | handlerDone
  /-- UID_QUERY, the request frame of R81, entirely constant. -/
  | uidQuery
  /-- BLOCK_READ, the request frame of R82 for block `b`. -/
  | blockRead (b : Byte)
  /-- BLOCK_WRITE, the request frame of R83 for block `b` and the block data `d`. -/
  | blockWrite (b : Byte) (d : Bytes)
  /-- UID_RSP, the response frame of R90: offsets 0..6, the UID at 7..10, the checksum slot. -/
  | uidRsp (head : Bytes) (uid : Uid) (chk : Byte)
  /-- ACK_RSP, the response frame of R91: offsets 0..3, the ack byte at 4, offsets 5..6, the checksum slot. -/
  | ackRsp (head : Bytes) (ack : Byte) (mid : Bytes) (chk : Byte)
  /-- READ_RSP, the response frame of R92: offsets 0..4, the block data at 5..20, the checksum slot. -/
  | readRsp (head : Bytes) (data : Bytes) (chk : Byte)
deriving DecidableEq, Repr, Inhabited

/-- An operand value as a request carries it (R101: "Operands are values carried with the request"). -/
inductive HostVal where
  | pin (p : PinId)
  | handler (h : HandlerRef)
  | text (s : HostString)
  | bytes (b : Bytes)
deriving DecidableEq, Repr, Inhabited

/-- How an instruction travels: a host request is one op-code byte followed by the operands as values
(95_test_vectors.md section 3); a frame is a byte sequence, a request frame on the block's transmit side and a
response frame on its receive side (20_memory.md R54). -/
inductive Message where
  | host (op : Byte) (args : List HostVal)
  | request (frame : Bytes)
  | response (frame : Bytes)
deriving DecidableEq, Repr, Inhabited

/-- The agents whose steps the block's rules describe (00_scope.md R10): the host contexts `HOST_k` (k ≥ 1), the
context `HANDLER` of the registered callback, and the poll engine `POLL`. -/
inductive Agent where
  | host (k : Nat)
  | handler
  | poll
deriving DecidableEq, Repr, Inhabited

end Sys2Proof
end

