-- ==== Sys2Proof/Machine/Operands.lean ====
section
/-!
DEFINITION. The operand forms: the operands of a host request (30_encoding.md R101), the fields of a response frame
(R90 to R92), and the 16-byte chunks of a payload stream (20_memory.md R57).
-/

namespace Sys2Proof.Machine

/-- The four bytes of a UID in frame order (20_memory.md R56). -/
def uidBytes (u : Uid) : Bytes := [u.u0, u.u1, u.u2, u.u3]

/-- The UID at offsets 7..10 of a 12-byte UID_RSP (R90); none at any other length. -/
def uidField (r : Bytes) : Option Uid :=
  match r with
  | [_, _, _, _, _, _, _, a, b, c, d, _] => some ⟨a, b, c, d⟩
  | _ => none

/-- The ack byte at offset 4 of an 8-byte ACK_RSP (R91); none at any other length. -/
def ackField (r : Bytes) : Option Byte :=
  match r with
  | [_, _, _, _, a, _, _, _] => some a
  | _ => none

/-- The 16 data bytes at offsets 5..20 of a 22-byte READ_RSP (R92); none at any other length. -/
def dataField (r : Bytes) : Option Bytes :=
  if r.length = 22 then some ((r.drop 5).take 16) else none

/-- `pad16(s)` is `s ++ repeat(0x00, 16 - len(s))` (00_scope.md R12). -/
def pad16 (s : Bytes) : Bytes := s ++ List.replicate (16 - s.length) 0#8

/-- Chunk `k` of a stream: bytes 16·k to 16·k + 15, padded (20_memory.md R57, 43_block_io.md R204). -/
def chunk (stream : Bytes) (k : Nat) : Bytes := pad16 ((stream.drop (16 * k)).take 16)

/-- The operands of a host operation when nothing is said about them: pin 0, callback 0, the empty string, the empty
byte sequence. They stand for the table's "operand words of zeros" (spec/opcode_table.json gives operands no bits). -/
def zeroOperands (op : Byte) : List HostVal :=
  if op = 0x01#8 then [.pin somePin, .pin somePin]
  else if op = 0x04#8 then [.handler someHandler]
  else if op = 0x08#8 then [.text []]
  else if op = 0x0A#8 then [.bytes []]
  else []

end Sys2Proof.Machine
end

