-- ==== Sys2Proof/WellFormed.lean ====
section
/-!
DEFINITION. Which instructions are well formed: the fixed lengths of the frames' fields (30_encoding.md R83, R90 to
R92). A host operation's operands are never range-checked (R101).
-/

namespace Sys2Proof

/-- Every variable-length field of a frame has the length its row gives it. -/
def Instr.wellFormed : Instr → Bool
  | .init _ _ => true
  | .disconnect => true
  | .reconnect => true
  | .registerHandler _ => true
  | .queryUid => true
  | .isInitialized => true
  | .isCardPresent => true
  | .writeText _ => true
  | .readText => true
  | .writeBytes _ => true
  | .readBytes => true
  | .handlerDone => true
  | .uidQuery => true
  | .blockRead _ => true
  | .blockWrite _ d => d.length == 16
  | .uidRsp head _ _ => head.length == 7
  | .ackRsp head _ mid _ => head.length == 4 && mid.length == 2
  | .readRsp head data _ => head.length == 5 && data.length == 16

end Sys2Proof
end

