-- ==== Sys2Proof/Decode.lean ====
section
/-!
DEFINITION. Decoding and encoding: host requests by their op code (30_encoding.md R100 to R102), request frames by
their first four bytes and their constant bytes (R95), response frames by their length (R93).
-/

namespace Sys2Proof

/-- Why a message spells no instruction. -/
inductive DecodeError where
  /-- An op code other than 0x01..0x0C (R102). -/
  | unknownOpcode (op : Byte)
  /-- The operands are not those of the operation's form (R101). -/
  | operandMismatch (op : Byte)
  /-- Bytes 0..3 are none of the three request headers (R95, R97). -/
  | unknownHeader
  /-- The frame's length is not the one its header gives (R84, R95). -/
  | wrongLength
  /-- Byte 4 of a UID_QUERY is not 0x00 (R81, R85). -/
  | badBlockField
  /-- Byte 5 is not 0x01 (R86, R95). -/
  | badCount
  /-- Byte 6 of a UID_QUERY or BLOCK_READ is not 0x00 (R88, R95). -/
  | badReserved
  /-- The last byte does not satisfy R89. -/
  | badChecksum
  /-- No response frame has this length (R93). -/
  | noResponse
deriving DecidableEq, Repr

/-- A host request: the op code's operation with its operands (R100). -/
def decodeHost (op : Byte) (args : List HostVal) : Except DecodeError Instr :=
  if op = 0x01#8 then
    match args with
    | [.pin tx, .pin rx] => .ok (.init tx rx)
    | _ => .error (.operandMismatch op)
  else if op = 0x02#8 then
    match args with
    | [] => .ok .disconnect
    | _ => .error (.operandMismatch op)
  else if op = 0x03#8 then
    match args with
    | [] => .ok .reconnect
    | _ => .error (.operandMismatch op)
  else if op = 0x04#8 then
    match args with
    | [.handler h] => .ok (.registerHandler h)
    | _ => .error (.operandMismatch op)
  else if op = 0x05#8 then
    match args with
    | [] => .ok .queryUid
    | _ => .error (.operandMismatch op)
  else if op = 0x06#8 then
    match args with
    | [] => .ok .isInitialized
    | _ => .error (.operandMismatch op)
  else if op = 0x07#8 then
    match args with
    | [] => .ok .isCardPresent
    | _ => .error (.operandMismatch op)
  else if op = 0x08#8 then
    match args with
    | [.text s] => .ok (.writeText s)
    | _ => .error (.operandMismatch op)
  else if op = 0x09#8 then
    match args with
    | [] => .ok .readText
    | _ => .error (.operandMismatch op)
  else if op = 0x0A#8 then
    match args with
    | [.bytes b] => .ok (.writeBytes b)
    | _ => .error (.operandMismatch op)
  else if op = 0x0B#8 then
    match args with
    | [] => .ok .readBytes
    | _ => .error (.operandMismatch op)
  else if op = 0x0C#8 then
    match args with
    | [] => .ok .handlerDone
    | _ => .error (.operandMismatch op)
  else .error (.unknownOpcode op)

/-- Bytes 4..7 of a UID_QUERY: block 0x00, count 0x01, reserved 0x00, checksum (R81). -/
def decodeUidQueryTail (frame tail : Bytes) : Except DecodeError Instr :=
  match tail with
  | [blk, cnt, rsv, _] =>
    if blk ≠ 0x00#8 then .error .badBlockField
    else if cnt ≠ 0x01#8 then .error .badCount
    else if rsv ≠ 0x00#8 then .error .badReserved
    else if Machine.verifyChecksum frame then .ok .uidQuery
    else .error .badChecksum
  | _ => .error .wrongLength

/-- Bytes 4..7 of a BLOCK_READ: block, count 0x01, reserved 0x00, checksum (R82). -/
def decodeBlockReadTail (frame tail : Bytes) : Except DecodeError Instr :=
  match tail with
  | [blk, cnt, rsv, _] =>
    if cnt ≠ 0x01#8 then .error .badCount
    else if rsv ≠ 0x00#8 then .error .badReserved
    else if Machine.verifyChecksum frame then .ok (.blockRead blk)
    else .error .badChecksum
  | _ => .error .wrongLength

/-- Bytes 4..22 of a BLOCK_WRITE: block, count 0x01, 16 data bytes, checksum (R83). -/
def decodeBlockWriteTail (frame tail : Bytes) : Except DecodeError Instr :=
  match tail with
  | blk :: cnt :: rest =>
    if rest.length ≠ 17 then .error .wrongLength
    else if cnt ≠ 0x01#8 then .error .badCount
    else if Machine.verifyChecksum frame then .ok (.blockWrite blk (rest.take 16))
    else .error .badChecksum
  | _ => .error .wrongLength

/-- A request frame (R95): "the kind from bytes 0..3 read as a 32-bit value with byte 0 in bits 31:24", then the
constant bytes and the checksum. -/
def decodeRequest (frame : Bytes) : Except DecodeError Instr :=
  match frame with
  | b0 :: b1 :: b2 :: b3 :: tail =>
    if b0 ++ b1 ++ b2 ++ b3 = 0x0108A120#32 then decodeUidQueryTail frame tail
    else if b0 ++ b1 ++ b2 ++ b3 = 0x0108A320#32 then decodeBlockReadTail frame tail
    else if b0 ++ b1 ++ b2 ++ b3 = 0x0117A420#32 then decodeBlockWriteTail frame tail
    else .error .unknownHeader
  | _ => .error .unknownHeader

/-- A response frame, by its length alone (R93): 12 bytes UID_RSP, 8 ACK_RSP, 22 READ_RSP. -/
def decodeResponse (frame : Bytes) : Except DecodeError Instr :=
  match frame with
  | [x0, x1, x2, x3, x4, x5, x6, u0, u1, u2, u3, c] =>
    .ok (.uidRsp [x0, x1, x2, x3, x4, x5, x6] ⟨u0, u1, u2, u3⟩ c)
  | [x0, x1, x2, x3, a, x5, x6, c] => .ok (.ackRsp [x0, x1, x2, x3] a [x5, x6] c)
  | x0 :: x1 :: x2 :: x3 :: x4 :: rest =>
    if rest.length = 17 then .ok (.readRsp [x0, x1, x2, x3, x4] (rest.take 16) (rest.getD 16 0#8))
    else .error .noResponse
  | _ => .error .noResponse

/-- The decoder: total on any message. -/
def decode : Message → Except DecodeError Instr
  | .host op args => decodeHost op args
  | .request frame => decodeRequest frame
  | .response frame => decodeResponse frame

/-- The 16 data bytes' part of a BLOCK_WRITE checksum (R83). -/
def blockWriteChecksum (b : Byte) (d : Bytes) : Byte := 0x6C#8 ^^^ b ^^^ Machine.xorFold d

/-- The encoder, from the listings of R81 to R83, R90 to R92 and R100. -/
def encode : Instr → Message
  | .init tx rx => .host 0x01#8 [.pin tx, .pin rx]
  | .disconnect => .host 0x02#8 []
  | .reconnect => .host 0x03#8 []
  | .registerHandler h => .host 0x04#8 [.handler h]
  | .queryUid => .host 0x05#8 []
  | .isInitialized => .host 0x06#8 []
  | .isCardPresent => .host 0x07#8 []
  | .writeText s => .host 0x08#8 [.text s]
  | .readText => .host 0x09#8 []
  | .writeBytes b => .host 0x0A#8 [.bytes b]
  | .readBytes => .host 0x0B#8 []
  | .handlerDone => .host 0x0C#8 []
  | .uidQuery => .request [0x01#8, 0x08#8, 0xA1#8, 0x20#8, 0x00#8, 0x01#8, 0x00#8, 0x76#8]
  | .blockRead b => .request [0x01#8, 0x08#8, 0xA3#8, 0x20#8, b, 0x01#8, 0x00#8, 0x74#8 ^^^ b]
  | .blockWrite b d =>
    .request ([0x01#8, 0x17#8, 0xA4#8, 0x20#8, b, 0x01#8] ++ d ++ [blockWriteChecksum b d])
  | .uidRsp head uid chk => .response (head ++ Machine.uidBytes uid ++ [chk])
  | .ackRsp head ack mid chk => .response (head ++ [ack] ++ mid ++ [chk])
  | .readRsp head data chk => .response (head ++ data ++ [chk])

/-- The bytes of an instruction that travels as a frame; none for a host request. -/
def frameBytes (i : Instr) : Bytes :=
  match encode i with
  | .host _ _ => []
  | .request f => f
  | .response f => f

/-- `n` bytes of a number, the most significant first. -/
def bytesBE : Nat → Nat → Bytes
  | 0, _ => []
  | n + 1, w => BitVec.ofNat 8 (w / 2 ^ (8 * n)) :: bytesBE n w

/-- Whether four bytes are one of the three request headers (R95). -/
def isRequestHeader (head : Bytes) : Bool :=
  head == [0x01#8, 0x08#8, 0xA1#8, 0x20#8] || head == [0x01#8, 0x08#8, 0xA3#8, 0x20#8]
    || head == [0x01#8, 0x17#8, 0xA4#8, 0x20#8]

/-- A request frame from a row of the opcode table, whose match and mask give bytes 0..3 only. DESIGN CHOICE (log 18):
where every bit after byte 3 is 0, the row's own constant bytes (count 0x01, the length its byte 1 says) are put in
their places with all operand bits 0; the derived checksum byte is filled as FILL_CHECKSUM fills it. -/
def tableFrame (head tail : Bytes) : Bytes :=
  let len := (head.getD 1 0#8).toNat
  if tail.all (· == 0#8) then
    Machine.fillChecksum (head ++ [0x00#8, 0x01#8] ++ List.replicate (len - 6) 0x00#8)
  else Machine.fillChecksum (head ++ tail)

/-- The message an opcode-table word stands for. Eight bits are a host op code, with zero operands. A wider word is a
frame, byte 0 in the most significant byte of the row's bits (the table: "bit 63 = bit 7 of byte 0"), or a request
header alone in the low 32 bits (R95: "byte 0 in bits 31:24"); a word whose header is no request's is a response
frame of the row's length. -/
def tableMessage (nbits w : Nat) : Option Message :=
  if nbits ≤ 8 then
    if w < 256 then some (.host (BitVec.ofNat 8 w) (Machine.zeroOperands (BitVec.ofNat 8 w))) else none
  else
    let whole := bytesBE (nbits / 8) w
    let low := bytesBE 4 w
    if isRequestHeader (whole.take 4) then some (.request (tableFrame (whole.take 4) (whole.drop 4)))
    else if isRequestHeader low && w < 2 ^ 32 then some (.request (tableFrame low []))
    else some (.response whole)

/-- What the decoder reads from a row of the opcode table whose bits are `w`. -/
def decodeTableWord (nbits w : Nat) : Option Instr :=
  match tableMessage nbits w with
  | none => none
  | some m =>
    match decode m with
    | .ok i => some i
    | .error _ => none

end Sys2Proof
end

