-- ==== Sys2Proof/Config.lean ====
section
/-!
DEFINITION. What the spec leaves open: the parameters of 00_scope.md R8, the host's text functions, and the moves of
the environment (the schedule, the host agents' requests, PARTNER's deliveries).
-/

namespace Sys2Proof

/-- `P_BLOCK_BUDGET`, legal values 3 and 6 (00_scope.md R8). -/
inductive BlockBudget where
  | three
  | six
deriving DecidableEq, Repr, Inhabited

/-- The parameters of 00_scope.md R8 that are numbers, sets or flags. They are configuration, not state (10_state.md
R38); log 4 says where the model keeps them. -/
structure Params where
  /-- `P_VALIDATE_RX_CHECKSUM`. -/
  validateRx : Bool
  /-- `P_BLOCK_BUDGET`. -/
  budget : BlockBudget
  /-- `P_BASE_BLOCK`, 0..255. -/
  base : Byte
  /-- `P_RESERVED_BLOCKS`, a set of block indices. -/
  reserved : List Byte
  /-- `P_RX_CAPACITY`, at least 22 (R9). -/
  rxCapacity : Nat
  /-- `P_SETTLE_MS`, a positive duration. -/
  settleMs : Nat
  /-- `P_POLL_INTERVAL_MS`, a positive duration. -/
  pollIntervalMs : Nat
deriving DecidableEq, Repr, Inhabited

/-- One move of the environment. Which one comes next is not fixed (00_scope.md R11, 20_memory.md R62, R65). -/
inductive Event where
  /-- A host agent issues a host operation with its operands (30_encoding.md R100, R101). -/
  | request (a : Agent) (op : Byte) (args : List HostVal)
  /-- The scheduler lets this agent take its next atomic step (00_scope.md R11). -/
  | run (a : Agent)
  /-- PARTNER delivers bytes (20_memory.md R62). -/
  | receive (bytes : Bytes)
  /-- Time passes while agents wait (00_scope.md R13). -/
  | elapse (d : Nat)
  /-- The test harness puts a card on SIMPARTNER or removes it (95_test_vectors.md section 0). -/
  | setCard (card : Option Uid)
deriving DecidableEq, Repr, Inhabited

/-- The parameters an implementation fixed: a free value (00_scope.md R8 "OPEN"; log 4). It may break R9; the value
the model starts from is `Machine.resetParams`, which never does. -/
opaque Config.rawParams : Params

/-- `P_UTF8_ENCODE`: a free value, a total host function (00_scope.md R8, D22; log 3). -/
opaque Config.utf8Encode : HostString → Bytes

/-- `P_UTF8_DECODE` on a non-empty sequence: a free value, a total host function (D22; log 3). -/
opaque Config.utf8DecodeNonEmpty : Bytes → HostString

/-- The environment's moves, one for each number: a free value (93_implementation_defined.md I3, I15; log 9). -/
opaque Config.environment : Nat → Event

/-- The data bits of `P_CHAR_FORMAT` (00_scope.md R8); there is no parity bit. The spec takes the format from general
knowledge (D4); no step depends on it. -/
def Config.dataBits : Nat := 8

/-- The stop bits of `P_CHAR_FORMAT` (00_scope.md R8, 92_eei_decisions.md D4). -/
def Config.stopBits : Nat := 1

end Sys2Proof
end

