-- ==== Sys2Proof/Machine/Parameters.lean ====
section
/-!
DEFINITION. What the parameters determine: the block sequence (43_block_io.md R200), their legality (00_scope.md R8,
R9), the test configurations of 95_test_vectors.md section 0, and P_UTF8_DECODE.
-/

namespace Sys2Proof.Machine

/-- The number of blocks `P_BLOCK_BUDGET` stands for. -/
def budgetBlocks : BlockBudget → Nat
  | .three => 3
  | .six => 6

/-- The usable indices: at least `P_BASE_BLOCK`, at most 255, not reserved, in ascending order (R200, R9). -/
def usableBlocks (p : Params) : List Byte :=
  ((List.range' p.base.toNat (256 - p.base.toNat)).map (BitVec.ofNat 8)).filter
    (fun b => !p.reserved.contains b)

/-- `BLOCK_SEQ` (R200): "the first `P_BLOCK_BUDGET` block indices i with i ≥ `P_BASE_BLOCK` and
i ∉ `P_RESERVED_BLOCKS`, in ascending order". -/
def blockSeq (p : Params) : List Byte := (usableBlocks p).take (budgetBlocks p.budget)

/-- The constraints of 00_scope.md R8 and R9: positive durations, room for the longest response, and every element of
`BLOCK_SEQ` in 0..255 (so that there are `P_BLOCK_BUDGET` of them). -/
def paramsLegal (p : Params) : Bool :=
  decide (22 ≤ p.rxCapacity) && decide (0 < p.settleMs) && decide (0 < p.pollIntervalMs)
    && decide ((blockSeq p).length = budgetBlocks p.budget)

/-- TC1 of 95_test_vectors.md section 0. -/
def paramsTC1 : Params :=
  { validateRx := false, budget := .six, base := 8#8, reserved := [11#8], rxCapacity := 64,
    settleMs := 50, pollIntervalMs := 20 }

/-- TC2 of 95_test_vectors.md section 0: TC1 with a budget of 3. -/
def paramsTC2 : Params := { paramsTC1 with budget := .three }

/-- The parameters the machine starts with: any legal ones. Where the free value breaks R9, which no implementation
does, TC1 stands in for it. -/
def resetParams : Params := if paramsLegal Config.rawParams then Config.rawParams else paramsTC1

/-- `P_UTF8_DECODE`, with its one constraint `P_UTF8_DECODE([])` = "" (00_scope.md R8, D22). -/
def utf8Decode (b : Bytes) : HostString :=
  match b with
  | [] => []
  | c :: rest => Config.utf8DecodeNonEmpty (c :: rest)

end Sys2Proof.Machine
end

