-- ==== Sys2Proof/Machine/State.lean ====
section
/-!
DEFINITION. The state of the block (10_state.md R20, R36), its outputs and the outside world's part of it, the reasons
a step stops, and the state after reset (70_reset_and_hazards.md R331).
-/

namespace Sys2Proof.Machine

/-- Why the machine stops with a fault. It has no constructor: the block has no trap mechanism, an error ends in a
result record (60_exceptions.md R300), and no rule reads LAST_UID before it is written (10_state.md R26, log 5). -/
inductive Fault where
deriving DecidableEq, Repr

/-- Why there is no step for an input. -/
inductive Refusal where
  /-- The instruction has no meaning in this model yet. Raised by `exec`'s arms alone. Safe. -/
  | notModelled (mnemonic : String)
  /-- A host request or the frame in TX_BUF spells no instruction (30_encoding.md R95, R101, R102). Safe. -/
  | undecodable (e : DecodeError)
  /-- HANDLER_DONE issued by an agent other than HANDLER, or while POLL_STATE ≠ Dispatching (30_encoding.md R102).
  Safe. -/
  | handlerDoneOutOfPlace
  /-- BUILD_BLOCK_WRITE with a data length other than 16 (41_frame_codec.md R142, 93_implementation_defined.md I17).
  Safe. -/
  | blockDataLength
  /-- A request frame with CONN = 0 or LINK_LOCK free, where the block emits none (42_transport.md R174, R183).
  Safe. -/
  | frameOutOfPlace
  /-- An operation by an agent that is inside another one (10_state.md R34); `step` never asks for it. Safe. -/
  | operationInProgress
deriving DecidableEq, Repr

/-- The error codes of 60_exceptions.md R301. -/
inductive Err where
  | ok
  | notConnected
  | noResponse
  | checksum
  | writeRejected
deriving DecidableEq, Repr, Inhabited

/-- The `val` of a result record: none, Bool, String or Bytes (30_encoding.md R100, R105). -/
inductive Val where
  | none
  | bool (b : Bool)
  | text (s : HostString)
  | bytes (b : Bytes)
deriving DecidableEq, Repr, Inhabited

/-- The result record `{val, err, trunc}` (30_encoding.md R105). -/
structure Result where
  val : Val
  err : Err
  trunc : Bool
deriving DecidableEq, Repr, Inhabited

/-- `BAUD`: "the constant 9600, read-only" (10_state.md R25), a register with one value. -/
inductive BaudRate where
  | b9600
deriving DecidableEq, Repr, Inhabited

/-- `POLL_STATE` (10_state.md R29). -/
inductive PollState where
  | idle
  | detecting
  | dispatching
deriving DecidableEq, Repr, Inhabited

/-- `LINK_LOCK` (10_state.md R31). -/
inductive LinkLock where
  | free
  | held (a : Agent)
deriving DecidableEq, Repr, Inhabited

/-- The transient locals of a stream operation (10_state.md R34): the block cursor `k`, the output `out` of
READ_STREAM, the stream `s` of WRITE_STREAM. -/
structure Locals where
  k : Nat
  out : Bytes
  stream : Bytes
deriving DecidableEq, Repr, Inhabited

/-- Where an operation in progress waits (00_scope.md R11): for LINK_LOCK, or in the settle delay of a transaction. -/
inductive Phase where
  | lockWait
  | settle (loc : Locals)
deriving DecidableEq, Repr, Inhabited

/-- An operation in progress: which one, and where it waits (10_state.md R34). -/
structure Task where
  op : Instr
  phase : Phase
deriving DecidableEq, Repr, Inhabited

/-- The agent at the other end of the line: the unconstrained PARTNER (20_memory.md R62), or SIMPARTNER with the UID
of the card that is present (R63). -/
inductive Partner where
  | oracle
  | sim (card : Option Uid)
deriving DecidableEq, Repr, Inhabited

/-- SIMPARTNER's tag memory as (address, byte) pairs in one canonical form (`memoryWf`); block b's byte o stands at
address 16·b + o. -/
abbrev Memory := List Host.Cell

/-- The whole state. INVENTORY.md lists each field with the rule that names it. -/
structure State where
  /-- The parameters (10_state.md R38); no step writes them (log 4). -/
  cfg : Params
  /-- S0 CONN. -/
  conn : Bool
  /-- S1 CFG_VALID. -/
  cfgValid : Bool
  /-- S2 CFG_TX. -/
  cfgTx : PinId
  /-- S3 CFG_RX. -/
  cfgRx : PinId
  /-- S4 BAUD. -/
  baud : BaudRate
  /-- S5 LAST_UID. -/
  lastUid : Uid
  /-- The model's own (log 5): whether LAST_UID was ever written, that is, has a value (R26). -/
  lastUidWritten : Bool
  /-- S6 HANDLER_VALID. -/
  handlerValid : Bool
  /-- S7 HANDLER. -/
  handler : HandlerRef
  /-- S8 BUSY. -/
  busy : Bool
  /-- S9 POLL_STATE. -/
  pollState : PollState
  /-- S10 POLL_TIMER, what is left of POLL's interval wait. -/
  pollTimer : Nat
  /-- S11 LINK_LOCK. -/
  linkLock : LinkLock
  /-- S12 TX_BUF. -/
  txBuf : Bytes
  /-- S13 RX_FIFO. -/
  rxFifo : Bytes
  /-- S13 RX_CAP. -/
  rxCap : Nat
  /-- What is left of the settle delay in progress (42_transport.md R178). -/
  settleTimer : Nat
  /-- The operations in progress of HOST_k, by k (R34). -/
  hostTasks : List (Nat × Task)
  /-- The operation in progress of HANDLER (R34). -/
  handlerTask : Option Task
  /-- The IS_CARD_PRESENT that POLL runs while Detecting (45_poll_loop.md R263). -/
  pollTask : Option Task
  /-- The callback HANDLER runs: `h` of DISPATCH (45_poll_loop.md R264). -/
  running : Option HandlerRef
  /-- The signal HANDLER_DONE, sent and not yet seen by POLL (45_poll_loop.md R266). -/
  doneSignal : Bool
  /-- The model's own (log 25): the agent whose atomic step this is. -/
  current : Agent
  /-- The model's own (log 15): the frames handed to the transmitter, newest first. -/
  wire : List Bytes
  /-- The model's own (log 15): the results returned and to whom, newest first. -/
  returns : List (Agent × Result)
  /-- The agent at the other end of the line. -/
  partner : Partner
  /-- SIMPARTNER's TAG. -/
  tag : Memory
  /-- The model's own (log 9): environment moves placed for the coming steps. -/
  events : List Event
  /-- The model's own (log 9): how many moves were drawn from the free environment. -/
  drawn : Nat
deriving DecidableEq, Repr

/-- The state after reset (70_reset_and_hazards.md R331). LAST_UID, CFG_TX, CFG_RX, HANDLER and POLL_TIMER have no
reset value in the spec: DESIGN CHOICE, logs 5 to 8. -/
def State.reset : State where
  cfg := resetParams
  conn := false
  cfgValid := false
  cfgTx := somePin
  cfgRx := somePin
  baud := .b9600
  lastUid := ⟨0#8, 0#8, 0#8, 0#8⟩
  lastUidWritten := false
  handlerValid := false
  handler := someHandler
  busy := false
  pollState := .idle
  pollTimer := 0
  linkLock := .free
  txBuf := []
  rxFifo := []
  rxCap := resetParams.rxCapacity
  settleTimer := 0
  hostTasks := []
  handlerTask := none
  pollTask := none
  running := none
  doneSignal := false
  current := .host 1
  wire := []
  returns := []
  partner := .oracle
  tag := []
  events := []
  drawn := 0

/-- The outcome of a step of this machine. -/
abbrev Out := Host.Outcome State Fault Refusal

end Sys2Proof.Machine
end

