-- ==== Sys2Proof/Machine/Flags.lean ====
section
/-!
DEFINITION. The flags and conditions the spec computes (10_state.md R37): the truncation indicator, the enable and the
mask of the detection event, the poll tick's condition, who may issue a host operation, and the error codes.
-/

namespace Sys2Proof.Machine

/-- The `err` byte of a result record (30_encoding.md R105, 60_exceptions.md R301). -/
def errCode : Err → Byte
  | .ok => 0#8
  | .notConnected => 1#8
  | .noResponse => 2#8
  | .checksum => 3#8
  | .writeRejected => 4#8

/-- The number 10_state.md R29 gives each value of POLL_STATE. -/
def pollStateCode : PollState → Nat
  | .idle => 0
  | .detecting => 1
  | .dispatching => 2

/-- The spec's bit for CONN, BUSY and the validity bits (10_state.md R23, R28). -/
def flagBit (b : Bool) : BitVec 1 := BitVec.ofBool b

/-- The link bit rate BAUD stands for (10_state.md R25). -/
def baudValue : BaudRate → Nat
  | .b9600 => 9600

/-- `trunc` of WRITE_STREAM for a stream of `n` bytes, terminator included: n > 16 · `P_BLOCK_BUDGET`
(43_block_io.md R204). -/
def truncated (p : Params) (n : Nat) : Bool := decide (16 * budgetBlocks p.budget < n)

/-- The detection event is enabled when CONN = 1 and HANDLER_VALID = 1 (60_exceptions.md R310). -/
def eventEnabled (s : State) : Bool := s.conn && s.handlerValid

/-- The detection event is masked while BUSY = 1 (60_exceptions.md R310). -/
def eventMasked (s : State) : Bool := s.busy

/-- The poll tick's condition (45_poll_loop.md R262). -/
def tickCondition (s : State) : Bool := eventEnabled s && !eventMasked s

/-- Which agents exist as issuers of host operations: every HOST_k with k ≥ 1, HANDLER while a callback runs, POLL
never (00_scope.md R10, 60_exceptions.md R319). -/
def canIssue (s : State) (a : Agent) : Bool :=
  match a with
  | .host k => k != 0
  | .handler => s.pollState == .dispatching
  | .poll => false

end Sys2Proof.Machine
end

