-- ==== Sys2Proof/Machine/Ops.lean ====
section
/-!
DEFINITION. The named operations over the state: sparse lists, SIMPARTNER's memory, the register LAST_UID, the
operations in progress, LINK_LOCK, the ends of an operation, the entry of the detection event and the return from it.
-/

namespace Sys2Proof.Machine

/-! ### Sparse lists: (key, value) pairs with strictly rising keys -/

/-- The value listed under a key. -/
def sparseFind {α : Type} (l : List (Nat × α)) (k : Nat) : Option α :=
  match l with
  | [] => none
  | (k', v) :: rest => if k' = k then some v else sparseFind rest k

/-- List a value under a key, keeping the keys in rising order. -/
def sparsePut {α : Type} (l : List (Nat × α)) (k : Nat) (v : α) : List (Nat × α) :=
  match l with
  | [] => [(k, v)]
  | (k', v') :: rest =>
    if k < k' then (k, v) :: (k', v') :: rest
    else if k = k' then (k, v) :: rest
    else (k', v') :: sparsePut rest k v

/-- Remove what is listed under a key. -/
def sparseDel {α : Type} (l : List (Nat × α)) (k : Nat) : List (Nat × α) :=
  match l with
  | [] => []
  | (k', v') :: rest => if k' = k then sparseDel rest k else (k', v') :: sparseDel rest k

/-- The keys rise strictly. -/
def sparseSorted {α : Type} (l : List (Nat × α)) : Bool :=
  match l with
  | [] => true
  | (k, _) :: rest => rest.all (fun c => decide (k < c.1)) && sparseSorted rest

/-! ### SIMPARTNER's tag memory (20_memory.md R50, R63) -/

/-- What an unlisted byte of TAG reads as. DESIGN CHOICE (log 14): 0xEE, the contents every vector of
95_test_vectors.md section 0 starts from. -/
def unlistedByte : Byte := 0xEE#8

/-- The tag's addresses are 0..4095: 256 blocks of 16 bytes (20_memory.md R50). -/
def tagBytes : Nat := 4096

/-- One byte of TAG. -/
def readByte (m : Memory) (a : Nat) : Byte := (sparseFind m a).getD unlistedByte

/-- Write one byte of TAG; the value an unlisted byte reads as is not listed. -/
def writeByte (m : Memory) (a : Nat) (v : Byte) : Memory :=
  if v = unlistedByte then sparseDel m a else sparsePut m a v

/-- The canonical form: addresses strictly rising and below 4096, no byte listed at what an unlisted one reads as. -/
def memoryWf (m : Memory) : Bool :=
  sparseSorted m && m.all (fun c => decide (c.1 < tagBytes) && c.2 != unlistedByte)

/-- The address of byte `o` of block `b`. -/
def blockAddress (b : Byte) (o : Nat) : Nat := 16 * b.toNat + o

/-- The 16 bytes of a block, in offset order. -/
def readBlock (m : Memory) (b : Byte) : Bytes :=
  (List.range 16).map (fun o => readByte m (blockAddress b o))

/-- Write bytes from an address on, in rising order. -/
def writeBytesFrom (m : Memory) (a : Nat) (d : Bytes) : Memory :=
  match d with
  | [] => m
  | v :: rest => writeBytesFrom (writeByte m a v) (a + 1) rest

/-- Write the first 16 bytes of `d` into a block. -/
def writeBlock (m : Memory) (b : Byte) (d : Bytes) : Memory :=
  writeBytesFrom m (blockAddress b 0) (d.take 16)

/-! ### LAST_UID (10_state.md R26) -/

/-- `LAST_UID <- u`. -/
def writeLastUid (u : Uid) (s : State) : State := { s with lastUid := u, lastUidWritten := true }

/-- The value of LAST_UID: none before the first write (R26, 92_eei_decisions.md D19, 93_implementation_defined.md I1).
No operation reads it there: QUERY_UID, the one that reads it, does so in the step that writes it. For claims. -/
def readLastUid (s : State) : Option Uid :=
  if s.lastUidWritten then some s.lastUid else none

/-! ### Operations in progress (10_state.md R34) -/

/-- The operation in progress of an agent. -/
def taskOf (s : State) (a : Agent) : Option Task :=
  match a with
  | .host k => sparseFind s.hostTasks k
  | .handler => s.handlerTask
  | .poll => s.pollTask

/-- Put an agent inside an operation, or end the one it is in. -/
def setTask (s : State) (a : Agent) (t : Option Task) : State :=
  match a with
  | .host k =>
    match t with
    | some task => { s with hostTasks := sparsePut s.hostTasks k task }
    | none => { s with hostTasks := sparseDel s.hostTasks k }
  | .handler => { s with handlerTask := t }
  | .poll => { s with pollTask := t }

/-- The locals of an operation that has none yet. -/
def noLocals : Locals := ⟨0, [], []⟩

/-! ### LINK_LOCK (20_memory.md R65) -/

/-- `Acquire(LINK_LOCK)` by the current agent: taken if Free; none where the agent must yield and retry. -/
def acquire (s : State) : Option State :=
  match s.linkLock with
  | .free => some { s with linkLock := .held s.current }
  | .held _ => none

/-- `Release(LINK_LOCK)`. -/
def release (s : State) : State := { s with linkLock := .free }

/-- Operation `op` waits for LINK_LOCK, or goes on with `granted` once it holds it (R65: "in the same atomic step"). -/
def whenGranted (op : Instr) (s : State) (granted : State → Out) : Out :=
  match acquire s with
  | some t => granted t
  | none => .next (setTask s s.current (some ⟨op, .lockWait⟩))

/-- The next atomic step of the link operation `op` of the current agent: issued, or retrying the lock, or resuming
after a settle delay that has ended (00_scope.md R11; while the delay runs, nothing happens). -/
def linkOperation (op : Instr) (s : State) (granted : State → Out) (resume : Locals → State → Out) : Out :=
  match taskOf s s.current with
  | none => whenGranted op s granted
  | some t =>
    if t.op = op then
      match t.phase with
      | .lockWait => whenGranted op s granted
      | .settle loc => if s.settleTimer = 0 then resume loc s else .next s
    else .refused .operationInProgress

/-- A host operation that takes no lock and ends in one atomic step. -/
def freeOperation (s : State) (run : State → Out) : Out :=
  match taskOf s s.current with
  | none => run s
  | some _ => .refused .operationInProgress

/-! ### The ends of an operation (30_encoding.md R105, 60_exceptions.md R300) -/

/-- Return a result record to the current agent. -/
def returnResult (r : Result) (s : State) : State := { s with returns := (s.current, r) :: s.returns }

/-- The end of a link operation: the lock is released, the operation is no longer in progress, the result returned.
This is also how an error ends one (R300: it "ends the operation that met it with a result record"). -/
def endOperation (r : Result) (s : State) : State :=
  returnResult r (setTask (release s) s.current none)

/-! ### The detection event (60_exceptions.md R309 to R314) -/

/-- Event entry, DISPATCH (45_poll_loop.md R264, 60_exceptions.md R312): no state is saved; BUSY and POLL_STATE are
set and HANDLER's callback starts. -/
def dispatch (s : State) : State :=
  { s with busy := true, pollState := .dispatching, running := some s.handler }

/-- Event return, HANDLER_DONE's effect (45_poll_loop.md R266, 60_exceptions.md R313): it restores nothing; POLL is
signalled. -/
def eventReturn (s : State) : State :=
  { s with busy := false, pollState := .idle, running := none, doneSignal := true }

/-- The end of every tick, `Wait(P_POLL_INTERVAL_MS)` (45_poll_loop.md R267, 10_state.md R30). -/
def startInterval (s : State) : State := { s with pollTimer := s.cfg.pollIntervalMs }

/-- The end of DETECT and what POLL does next without yielding (45_poll_loop.md R262 to R264): DISPATCH on a positive
answer, else Idle and the interval wait. -/
def detectAnswered (present : Bool) (s : State) : State :=
  if present then dispatch s else startInterval { s with pollState := .idle }

/-- The end of IS_CARD_PRESENT: its answer goes to the host agent that issued it or, when agent POLL runs it, to
DETECT (45_poll_loop.md R263). -/
def endProbe (err : Err) (s : State) : State :=
  if s.current = .poll then detectAnswered (err == .ok) (setTask (release s) .poll none)
  else endOperation ⟨.bool (err == .ok), err, false⟩ s

end Sys2Proof.Machine
end

