-- ==== Sys2Proof/Machine/FrameCodec.lean ====
section
/-!
DEFINITION. The FrameCodec (41_frame_codec.md): the builders, which write TX_BUF, and the parsers.
-/

namespace Sys2Proof.Machine

/-- FILL_CHECKSUM on TX_BUF (40_checksum.md R121). -/
def fillTxBuf (s : State) : State := { s with txBuf := fillChecksum s.txBuf }

/-- BUILD_UID_QUERY (R140). -/
def buildUidQuery (s : State) : State :=
  fillTxBuf { s with txBuf := [0x01#8, 0x08#8, 0xA1#8, 0x20#8, 0x00#8, 0x01#8, 0x00#8, 0x00#8] }

/-- BUILD_BLOCK_READ (R141). -/
def buildBlockRead (b : Byte) (s : State) : State :=
  fillTxBuf { s with txBuf := [0x01#8, 0x08#8, 0xA3#8, 0x20#8, b, 0x01#8, 0x00#8, 0x00#8] }

/-- BUILD_BLOCK_WRITE (R142); a data length other than 16 is refused (I17). -/
def buildBlockWrite (b : Byte) (d : Bytes) (s : State) : Except Refusal State :=
  if d.length = 16 then
    .ok (fillTxBuf { s with txBuf := [0x01#8, 0x17#8, 0xA4#8, 0x20#8, b, 0x01#8] ++ d ++ [0x00#8] })
  else .error .blockDataLength

/-- The checksum policy of R146: examined only when `P_VALIDATE_RX_CHECKSUM` = true. -/
def checksumAccepted (validate : Bool) (r : Bytes) : Bool := !validate || verifyChecksum r

/-- PARSE_UID_RSP (R143) of `NoData` (none) or a response. -/
def parseUidRsp (validate : Bool) (r : Option Bytes) : Except Err Uid :=
  match r with
  | none => .error .noResponse
  | some bytes =>
    match uidField bytes with
    | none => .error .noResponse
    | some u => if checksumAccepted validate bytes then .ok u else .error .checksum

/-- PARSE_WRITE_ACK (R144); the checks stand in the order of 60_exceptions.md R307. -/
def parseWriteAck (validate : Bool) (r : Option Bytes) : Except Err Unit :=
  match r with
  | none => .error .noResponse
  | some bytes =>
    match ackField bytes with
    | none => .error .noResponse
    | some a =>
      if checksumAccepted validate bytes then
        if a = 0x00#8 then .ok () else .error .writeRejected
      else .error .checksum

/-- PARSE_READ_RSP (R145). -/
def parseReadRsp (validate : Bool) (r : Option Bytes) : Except Err Bytes :=
  match r with
  | none => .error .noResponse
  | some bytes =>
    match dataField bytes with
    | none => .error .noResponse
    | some d => if checksumAccepted validate bytes then .ok d else .error .checksum

end Sys2Proof.Machine
end

