-- ==== Sys2Proof/Machine/Transport.lean ====
section
/-!
DEFINITION. The Transport (42_transport.md): its byte primitives, the reaction of the agent at the other end of the
line (20_memory.md R62, R63), and the host operations INIT, DISCONNECT, RECONNECT.
-/

namespace Sys2Proof.Machine

/-! ### Receiving -/

/-- One byte arrives: appended, or dropped when RX_FIFO is full (10_state.md R33). A dropped byte leaves no trace:
DEDUCED for the capacity 22, where 93_implementation_defined.md I21 expects another outcome (log 30). -/
def receiveByte (s : State) (b : Byte) : State :=
  if s.rxFifo.length < s.rxCap then { s with rxFifo := s.rxFifo ++ [b] } else s

/-- PARTNER delivers bytes, in arrival order (20_memory.md R54, R62). -/
def deliver (bytes : Bytes) (s : State) : State := bytes.foldl receiveByte s

/-- `RxReset()` (R175). -/
def rxReset (s : State) : State := { s with rxFifo := [], rxCap := s.cfg.rxCapacity }

/-- `RxCount()` (R176). -/
def rxCount (s : State) : Nat := s.rxFifo.length

/-- `RxRead(n)` (R177): the first n bytes, removed from RX_FIFO. -/
def rxRead (n : Nat) (s : State) : Bytes × State :=
  (s.rxFifo.take n, { s with rxFifo := s.rxFifo.drop n })

/-- READ_EXACTLY(n) from the end of its settle delay on (R178): `NoData` (none) unless exactly n bytes are there.
The count is of the bytes in RX_FIFO, not of those that arrived: with RX_CAP = 22 a longer reply to a BLOCK_READ is cut
to 22 bytes and accepted (DEDUCED, log 30). -/
def readExactly (n : Nat) (s : State) : Option Bytes × State :=
  if rxCount s = n then
    match rxRead n s with
    | (r, t) => (some r, t)
  else (none, s)

/-! ### Sending -/

/-- What SIMPARTNER delivers for a frame and the TAG it leaves (20_memory.md R63): with a card, the three responses
with the spec's filler bytes; for any other byte sequence, or without a card, nothing. -/
def simReply (card : Option Uid) (tag : Memory) (frame : Bytes) : Bytes × Memory :=
  match card with
  | none => ([], tag)
  | some u =>
    match decodeRequest frame with
    | .ok .uidQuery =>
      (fillChecksum ([0x01#8, 0x0C#8, 0xA1#8, 0x00#8, 0x00#8, 0x00#8, 0x00#8] ++ uidBytes u ++ [0x00#8]), tag)
    | .ok (.blockRead b) =>
      (fillChecksum ([0x01#8, 0x16#8, 0xA3#8, 0x00#8, 0x00#8] ++ readBlock tag b ++ [0x00#8]), tag)
    | .ok (.blockWrite b d) =>
      (fillChecksum [0x01#8, 0x08#8, 0xA4#8, 0x00#8, 0x00#8, 0x00#8, 0x00#8, 0x00#8], writeBlock tag b d)
    | _ => ([], tag)

/-- The other end of the line gets a frame. The unconstrained PARTNER's replies are moves of the environment
(20_memory.md R62); SIMPARTNER's reply arrives at once (log 14). -/
def partnerReacts (frame : Bytes) (s : State) : State :=
  match s.partner with
  | .oracle => s
  | .sim card =>
    match simReply card s.tag frame with
    | (reply, tag) => deliver reply { s with tag := tag }

/-- `LinkWrite` of TX_BUF (R174): its bytes go to the transmitter and TX_BUF is consumed (log 11). -/
def linkWrite (s : State) : State :=
  partnerReacts s.txBuf { s with wire := s.txBuf :: s.wire, txBuf := [] }

/-- The sending half of TRANSACT (R179): RxReset, then LinkWrite. Refused where the block emits no frame: CONN = 0
(R183) or LINK_LOCK not held (R174's precondition). -/
def transmit (s : State) : Out :=
  if s.conn && s.linkLock != .free then .next (linkWrite (rxReset s)) else .refused .frameOutOfPlace

/-- Operation `op` of the current agent starts the settle delay of READ_EXACTLY (R178) for the frame it has built in
TX_BUF; the frame goes out before anything else happens (log 10). -/
def awaitResponse (op : Instr) (loc : Locals) (s : State) : State :=
  setTask { s with settleTimer := s.cfg.settleMs } s.current (some ⟨op, .settle loc⟩)

/-- Disconnected gating (R183) for an operation with sentinel `v`: with CONN = 0, no frame and no wait, and `trunc` = 0
as the pseudocode of each operation has it (44_card_session.md R231 to R235; DEDUCED for a write, log 13). -/
def gated (v : Val) (s : State) (go : State → Out) : Out :=
  if s.conn then go s else .next (endOperation ⟨v, .notConnected, false⟩ s)

/-- One byte on the line: one start bit, eight data bits from the least significant, one stop bit, no parity
(20_memory.md R55). The levels are not the spec's: the start bit 0 (false), the stop bit 1 (true) and a data bit at its
own value are PRESUMED from the family of asynchronous serial links (log 26). No step depends on them. -/
def lineBits (b : Byte) : List Bool :=
  [false] ++ (List.range Config.dataBits).map b.getLsbD ++ List.replicate Config.stopBits true

/-- A frame on the line, byte 0 first (20_memory.md R54, R55; 70_reset_and_hazards.md R342: 10 bit times a byte). -/
def frameOnLine (frame : Bytes) : List Bool := frame.flatMap lineBits

/-! ### Connection control -/

/-- CONFIGURE(tx, rx, baud) (R171); `baud` is always BAUD (90_conflicts.md C5), which has one value. -/
def configure (tx rx : PinId) (_baud : BaudRate) (s : State) : State :=
  { s with cfgTx := tx, cfgRx := rx, cfgValid := true, conn := true }

/-- The result of an operation that returns no value and cannot fail. -/
def doneResult : Result := ⟨.none, .ok, false⟩

/-- INIT tx, rx (R180). -/
def execInit (tx rx : PinId) (s : State) : Out :=
  linkOperation (.init tx rx) s
    (fun t => .next (endOperation doneResult (configure tx rx t.baud t)))
    (fun _ _ => .refused .operationInProgress)

/-- DISCONNECT (R172): the pins are kept. -/
def execDisconnect (s : State) : Out :=
  linkOperation .disconnect s
    (fun t => .next (endOperation doneResult { t with conn := false }))
    (fun _ _ => .refused .operationInProgress)

/-- RECONNECT (R173). -/
def execReconnect (s : State) : Out :=
  linkOperation .reconnect s
    (fun t => .next (endOperation doneResult (if t.cfgValid then configure t.cfgTx t.cfgRx t.baud t else t)))
    (fun _ _ => .refused .operationInProgress)

end Sys2Proof.Machine
end

