-- ==== Sys2Proof/Machine/Frames.lean ====
section
/-!
DEFINITION. The frames as instructions (log 20): a request frame is emitted by the block, with the receive buffer
made fresh before it (42_transport.md R174, R175, R179); a response frame is delivered by PARTNER (20_memory.md R62).
-/

namespace Sys2Proof.Machine

/-- UID_QUERY (30_encoding.md R81). -/
def execUidQuery (s : State) : Out := transmit (buildUidQuery s)

/-- BLOCK_READ (30_encoding.md R82). -/
def execBlockRead (b : Byte) (s : State) : Out := transmit (buildBlockRead b s)

/-- BLOCK_WRITE (30_encoding.md R83). -/
def execBlockWrite (b : Byte) (d : Bytes) (s : State) : Out :=
  match buildBlockWrite b d s with
  | .error r => .refused r
  | .ok t => transmit t

/-- UID_RSP (30_encoding.md R90): its bytes arrive in RX_FIFO. -/
def execUidRsp (head : Bytes) (uid : Uid) (chk : Byte) (s : State) : Out :=
  .next (deliver (head ++ uidBytes uid ++ [chk]) s)

/-- ACK_RSP (30_encoding.md R91): its bytes arrive in RX_FIFO. -/
def execAckRsp (head : Bytes) (ack : Byte) (mid : Bytes) (chk : Byte) (s : State) : Out :=
  .next (deliver (head ++ [ack] ++ mid ++ [chk]) s)

/-- READ_RSP (30_encoding.md R92): its bytes arrive in RX_FIFO. -/
def execReadRsp (head : Bytes) (data : Bytes) (chk : Byte) (s : State) : Out :=
  .next (deliver (head ++ data ++ [chk]) s)

end Sys2Proof.Machine
end

