-- ==== Sys2Proof/Machine/BlockIO.lean ====
section
/-!
DEFINITION. BlockIO, the block-boundary sequencer (43_block_io.md): FIND_PAIR, and WRITE_STREAM and READ_STREAM as
the atomic steps between their settle delays.
-/

namespace Sys2Proof.Machine

/-- `FIND_PAIR(blk)` (R203): the least i with blk[i] = blk[i+1] = 0x00. -/
def findPair (blk : Bytes) : Option Nat :=
  match blk with
  | a :: b :: rest =>
    if a = 0x00#8 ∧ b = 0x00#8 then some 0
    else (findPair (b :: rest)).map (· + 1)
  | _ => none

/-- The stream WRITE_STREAM writes: `data ++ [0x00, 0x00]` (R204). -/
def terminated (data : Bytes) : Bytes := data ++ [0x00#8, 0x00#8]

/-- `nchunk` of R204: ceil_div(n, 16) for a stream of n bytes, terminator included. -/
def chunkCount (n : Nat) : Nat := (n + 15) / 16

/-- The blocks WRITE_STREAM writes for a stream of n bytes: the first min(nchunk, `P_BLOCK_BUDGET`) of BLOCK_SEQ
(R204). -/
def writtenBlocks (p : Params) (n : Nat) : List Byte := (blockSeq p).take (chunkCount n)

/-- WRITE_STREAM at block cursor `k` (R204): the transaction of WRITE_BLOCK(BLOCK_SEQ[k], chunk k) starts; after the
last block the operation ends. -/
def writeFrom (op : Instr) (stream : Bytes) (k : Nat) (s : State) : Out :=
  match (writtenBlocks s.cfg stream.length)[k]? with
  | none => .next (endOperation ⟨.bool true, .ok, truncated s.cfg stream.length⟩ s)
  | some b =>
    match buildBlockWrite b (chunk stream k) s with
    | .error r => .refused r
    | .ok t => .next (awaitResponse op ⟨k, [], stream⟩ t)

/-- WRITE_STREAM after the settle delay of block `loc.k` (R201, R204): the first error ends it, with `trunc`
alongside (60_exceptions.md R307); else the next block. -/
def writeResume (op : Instr) (loc : Locals) (s : State) : Out :=
  match readExactly 8 s with
  | (r, t) =>
    match parseWriteAck t.cfg.validateRx r with
    | .error e => .next (endOperation ⟨.bool false, e, truncated t.cfg loc.stream.length⟩ t)
    | .ok _ => writeFrom op loc.stream (loc.k + 1) t

/-- READ_STREAM at block cursor `k` with the bytes accumulated so far (R205); `wrap` makes the operation's value of
them. -/
def readFrom (op : Instr) (wrap : Bytes → Val) (k : Nat) (out : Bytes) (s : State) : Out :=
  match (blockSeq s.cfg)[k]? with
  | none => .next (endOperation ⟨wrap out, .ok, false⟩ s)
  | some b => .next (awaitResponse op ⟨k, out, []⟩ (buildBlockRead b s))

/-- READ_STREAM after the settle delay of block `loc.k` (R202, R205): an error ends it with what was accumulated, a
zero pair ends it before the pair, else the next block. -/
def readResume (op : Instr) (wrap : Bytes → Val) (loc : Locals) (s : State) : Out :=
  match readExactly 22 s with
  | (r, t) =>
    match parseReadRsp t.cfg.validateRx r with
    | .error e => .next (endOperation ⟨wrap loc.out, e, false⟩ t)
    | .ok blk =>
      match findPair blk with
      | some i => .next (endOperation ⟨wrap (loc.out ++ blk.take i), .ok, false⟩ t)
      | none => readFrom op wrap (loc.k + 1) (loc.out ++ blk) t

end Sys2Proof.Machine
end

