-- ==== Sys2Proof/Machine/CardSession.lean ====
section
/-!
DEFINITION. The CardSession operations (44_card_session.md).
-/

namespace Sys2Proof.Machine

/-- HEXCH(n): "0123456789ABCDEF"[n] (R230). -/
def hexChar (n : BitVec 4) : Char :=
  ['0', '1', '2', '3', '4', '5', '6', '7', '8', '9', 'A', 'B', 'C', 'D', 'E', 'F'].getD n.toNat '0'

/-- Two characters for a byte, the most significant nibble first (R230). -/
def hexByte (b : Byte) : HostString := [hexChar (b.extractLsb' 4 4), hexChar (b.extractLsb' 0 4)]

/-- HEX_RENDER (R230). -/
def hexRender (u : Uid) : HostString := hexByte u.u0 ++ hexByte u.u1 ++ hexByte u.u2 ++ hexByte u.u3

/-- QUERY_UID once its response is judged (R231): LAST_UID is written on success only, and the UID written is the one
rendered in the result. -/
def queryUidJudged (u : Except Err Uid) (s : State) : Out :=
  match u with
  | .error e => .next (endOperation ⟨.text [], e, false⟩ s)
  | .ok uid => .next (endOperation ⟨.text (hexRender uid), .ok, false⟩ (writeLastUid uid s))

/-- QUERY_UID (R231). -/
def execQueryUid (s : State) : Out :=
  linkOperation .queryUid s
    (fun t => gated (.text []) t (fun t => .next (awaitResponse .queryUid noLocals (buildUidQuery t))))
    (fun _ t =>
      match readExactly 12 t with
      | (r, t') => queryUidJudged (parseUidRsp t'.cfg.validateRx r) t')

/-- The answer of IS_CARD_PRESENT to a parsed UID response (R232): the UID is discarded. -/
def probeError (u : Except Err Uid) : Err :=
  match u with
  | .error e => e
  | .ok _ => .ok

/-- IS_CARD_PRESENT (R232), run by a host agent or, as DETECT, by agent POLL (45_poll_loop.md R263). -/
def execIsCardPresent (s : State) : Out :=
  linkOperation .isCardPresent s
    (fun t =>
      if t.conn then .next (awaitResponse .isCardPresent noLocals (buildUidQuery t))
      else .next (endProbe .notConnected t))
    (fun _ t =>
      match readExactly 12 t with
      | (r, t') => .next (endProbe (probeError (parseUidRsp t'.cfg.validateRx r)) t'))

/-- IS_INITIALIZED (R233): it takes no lock. -/
def execIsInitialized (s : State) : Out :=
  freeOperation s (fun t => .next (returnResult ⟨.bool t.conn, .ok, false⟩ t))

/-- WRITE_BYTES b (R234). -/
def execWriteBytes (data : Bytes) (s : State) : Out :=
  linkOperation (.writeBytes data) s
    (fun t => gated (.bool false) t (writeFrom (.writeBytes data) (terminated data) 0))
    (writeResume (.writeBytes data))

/-- READ_BYTES (R235). -/
def execReadBytes (s : State) : Out :=
  linkOperation .readBytes s
    (fun t => gated (.bytes []) t (readFrom .readBytes .bytes 0 []))
    (readResume .readBytes .bytes)

/-- WRITE_TEXT s (R236): WRITE_BYTES of `P_UTF8_ENCODE(s)`. -/
def execWriteText (text : HostString) (s : State) : Out :=
  linkOperation (.writeText text) s
    (fun t => gated (.bool false) t (writeFrom (.writeText text) (terminated (Config.utf8Encode text)) 0))
    (writeResume (.writeText text))

/-- The value of READ_TEXT for the bytes READ_BYTES returns (R237). -/
def decodedText (b : Bytes) : Val := .text (utf8Decode b)

/-- READ_TEXT (R237). -/
def execReadText (s : State) : Out :=
  linkOperation .readText s
    (fun t => gated (decodedText []) t (readFrom .readText decodedText 0 []))
    (readResume .readText decodedText)

end Sys2Proof.Machine
end

