-- ==== Sys2Proof/Machine/PollLoop.lean ====
section
/-!
DEFINITION. The PollLoop (45_poll_loop.md): REGISTER_HANDLER, HANDLER_DONE, and the steps of agent POLL.
-/

namespace Sys2Proof.Machine

/-- REGISTER_HANDLER h (R261): a second registration replaces the first. -/
def execRegisterHandler (h : HandlerRef) (s : State) : Out :=
  freeOperation s (fun t => .next (returnResult doneResult { t with handler := h, handlerValid := true }))

/-- HANDLER_DONE (R266); refused unless agent HANDLER issues it while Dispatching (30_encoding.md R102). -/
def execHandlerDone (s : State) : Out :=
  if s.current = .handler ∧ s.pollState = .dispatching then
    freeOperation s (fun t => .next (returnResult doneResult (eventReturn t)))
  else .refused .handlerDoneOutOfPlace

/-- POLL_TICK (R262), its timer expired: DETECT if the condition holds, else only the interval wait. -/
def pollTick (s : State) : Out :=
  if tickCondition s then execIsCardPresent { s with pollState := .detecting }
  else .next (startInterval s)

/-- The next atomic step of agent POLL: after a dispatch has ended, the interval wait (R266, R267); when Idle with the
timer expired, a tick; while Detecting, the next step of its IS_CARD_PRESENT (R263); while Dispatching, none. -/
def pollStep (s : State) : Out :=
  if s.doneSignal then .next (startInterval { s with doneSignal := false })
  else
    match s.pollState with
    | .idle => if s.pollTimer = 0 then pollTick s else .next s
    | .detecting => if s.pollTask = none then .next s else execIsCardPresent s
    | .dispatching => .next s

end Sys2Proof.Machine
end

