-- ==== Sys2Proof/Machine/Dispatch.lean ====
section
/-! DEFINITION. The meaning of every instruction: for a host operation, the next atomic step of it by the current
agent; for a frame, its passage over the line. -/

namespace Sys2Proof.Machine

def exec (i : Instr) (s : State) : Host.Outcome State Fault Refusal :=
  match i with
  | .init tx rx => Sys2Proof.Machine.execInit tx rx s
  | .disconnect => Sys2Proof.Machine.execDisconnect s
  | .reconnect => Sys2Proof.Machine.execReconnect s
  | .registerHandler h => Sys2Proof.Machine.execRegisterHandler h s
  | .queryUid => Sys2Proof.Machine.execQueryUid s
  | .isInitialized => Sys2Proof.Machine.execIsInitialized s
  | .isCardPresent => Sys2Proof.Machine.execIsCardPresent s
  | .writeText text => Sys2Proof.Machine.execWriteText text s
  | .readText => Sys2Proof.Machine.execReadText s
  | .writeBytes data => Sys2Proof.Machine.execWriteBytes data s
  | .readBytes => Sys2Proof.Machine.execReadBytes s
  | .handlerDone => Sys2Proof.Machine.execHandlerDone s
  | .uidQuery => Sys2Proof.Machine.execUidQuery s
  | .blockRead b => Sys2Proof.Machine.execBlockRead b s
  | .blockWrite b d => Sys2Proof.Machine.execBlockWrite b d s
  | .uidRsp head uid chk => Sys2Proof.Machine.execUidRsp head uid chk s
  | .ackRsp head ack mid chk => Sys2Proof.Machine.execAckRsp head ack mid chk s
  | .readRsp head data chk => Sys2Proof.Machine.execReadRsp head data chk s

end Sys2Proof.Machine
end

