-- ==== Sys2Proof/Machine/Schedule.lean ====
section
/-!
DEFINITION. What one step does: the frame in TX_BUF goes out first; else the environment's next move is taken and
carried out (00_scope.md R11, log 9, log 10).
-/

namespace Sys2Proof.Machine

/-- The environment's next move: the first one placed, or the next free one; and the state without it. -/
def nextEvent (s : State) : Event × State :=
  match s.events with
  | e :: rest => (e, { s with events := rest })
  | [] => (Config.environment s.drawn, { s with drawn := s.drawn + 1 })

/-- The request frame in TX_BUF is decoded and carried out (30_encoding.md R95). -/
def stepFrame (s : State) : Out :=
  match decode (.request s.txBuf) with
  | .error e => .refused (.undecodable e)
  | .ok i => exec i s

/-- An agent issues a host operation. An agent inside an operation issues nothing, and neither does one that does not
exist (log 16): the move is passed over. HANDLER_DONE out of place is refused by its meaning (30_encoding.md R102). -/
def stepRequest (a : Agent) (op : Byte) (args : List HostVal) (s : State) : Out :=
  if (taskOf s a).isSome then .next s
  else
    match decode (.host op args) with
    | .error e => .refused (.undecodable e)
    | .ok i => if i = .handlerDone ∨ canIssue s a then exec i { s with current := a } else .next s

/-- The scheduler picks an agent: POLL takes its next step; another agent goes on with its operation in progress, or
does nothing if it has none (log 16). -/
def stepRun (a : Agent) (s : State) : Out :=
  if a = .poll then pollStep { s with current := .poll }
  else
    match taskOf s a with
    | none => .next s
    | some t => exec t.op { s with current := a }

/-- Bytes arrive from PARTNER: a response frame is an instruction; any other sequence is delivered the same way (20_memory.md
R62). SIMPARTNER delivers "nothing else" than its own replies (R63). -/
def stepReceive (bytes : Bytes) (s : State) : Out :=
  if s.partner = .oracle then
    match decode (.response bytes) with
    | .ok i => exec i s
    | .error _ => .next (deliver bytes s)
  else .next s

/-- Time passes in the waits (00_scope.md R13, 10_state.md R30). -/
def stepElapse (d : Nat) (s : State) : Out :=
  .next { s with pollTimer := s.pollTimer - d, settleTimer := s.settleTimer - d }

/-- A card is put on SIMPARTNER or removed (95_test_vectors.md section 0). -/
def stepCard (card : Option Uid) (s : State) : Out :=
  if s.partner = .oracle then .next s else .next { s with partner := .sim card }

/-- One move of the environment. -/
def stepEvent (e : Event) (s : State) : Out :=
  match e with
  | .request a op args => stepRequest a op args s
  | .run a => stepRun a s
  | .receive bytes => stepReceive bytes s
  | .elapse d => stepElapse d s
  | .setCard card => stepCard card s

/-- Place a message where the next step takes it. A request frame stands in TX_BUF, with the link up and the lock held
by HOST_1, as the block has them when it emits a frame; a host request is the next move, issued by HOST_1 or, for
HANDLER_DONE, by agent HANDLER inside its callback; a response frame is the next move of PARTNER (log 19). -/
def placeMessage (m : Message) (s : State) : State :=
  match m with
  | .request frame => { s with txBuf := frame, conn := true, linkLock := .held (.host 1), current := .host 1 }
  | .host op args =>
    if op = 0x0C#8 then
      { s with txBuf := [], busy := true, pollState := .dispatching, handlerTask := none,
               events := .request .handler op args :: s.events }
    else
      { setTask s (.host 1) none with txBuf := [], events := .request (.host 1) op args :: s.events }
  | .response frame => { s with txBuf := [], partner := .oracle, events := .receive frame :: s.events }

end Sys2Proof.Machine
end

