-- ==== Sys2Proof/Machine/Step.lean ====
section
/-! DEFINITION. The step, and how the host places an instruction for the next step. -/

namespace Sys2Proof.Machine

/-- One step: the frame the block has built goes out, or the environment's next move is carried out. -/
def step (s : State) : Host.Outcome State Fault Refusal :=
  if s.txBuf = [] then
    match nextEvent s with
    | (e, t) => stepEvent e t
  else stepFrame s

/-- `s` with the instruction of an opcode-table word placed so that the next step runs it (`placeMessage`, log 19). -/
def State.withFetchWord (s : State) (nbits w : Nat) : State :=
  match tableMessage nbits w with
  | none => s
  | some m => placeMessage m s

end Sys2Proof.Machine
end

