-- ==== Sys2Proof/Safety.lean ====
section
/-!
DEFINITION. What claims speak of: kinds of operation, readiness, the frames the block may emit, the invariants of the
machine, and weak fairness of a schedule.
-/

namespace Sys2Proof.Machine

/-- The host operations that take LINK_LOCK (20_memory.md R64). -/
def isLinkOp : Instr → Bool
  | .init _ _ => true
  | .disconnect => true
  | .reconnect => true
  | .registerHandler _ => false
  | .queryUid => true
  | .isInitialized => false
  | .isCardPresent => true
  | .writeText _ => true
  | .readText => true
  | .writeBytes _ => true
  | .readBytes => true
  | .handlerDone => false
  | .uidQuery => false
  | .blockRead _ => false
  | .blockWrite _ _ => false
  | .uidRsp _ _ _ => false
  | .ackRsp _ _ _ _ => false
  | .readRsp _ _ _ => false

/-- The protocol operations, which test CONN and send frames (42_transport.md R183). -/
def isProtocolOp : Instr → Bool
  | .init _ _ => false
  | .disconnect => false
  | .reconnect => false
  | .registerHandler _ => false
  | .queryUid => true
  | .isInitialized => false
  | .isCardPresent => true
  | .writeText _ => true
  | .readText => true
  | .writeBytes _ => true
  | .readBytes => true
  | .handlerDone => false
  | .uidQuery => false
  | .blockRead _ => false
  | .blockWrite _ _ => false
  | .uidRsp _ _ _ => false
  | .ackRsp _ _ _ _ => false
  | .readRsp _ _ _ => false

/-- The twelve host operations (30_encoding.md R100). -/
def isHostOp : Instr → Bool
  | .init _ _ => true
  | .disconnect => true
  | .reconnect => true
  | .registerHandler _ => true
  | .queryUid => true
  | .isInitialized => true
  | .isCardPresent => true
  | .writeText _ => true
  | .readText => true
  | .writeBytes _ => true
  | .readBytes => true
  | .handlerDone => true
  | .uidQuery => false
  | .blockRead _ => false
  | .blockWrite _ _ => false
  | .uidRsp _ _ _ => false
  | .ackRsp _ _ _ _ => false
  | .readRsp _ _ _ => false

/-- The sentinel a protocol operation returns when it finds CONN = 0 (30_encoding.md R106, 42_transport.md R183). -/
def sentinel : Instr → Val
  | .init _ _ => .none
  | .disconnect => .none
  | .reconnect => .none
  | .registerHandler _ => .none
  | .queryUid => .text []
  | .isInitialized => .bool false
  | .isCardPresent => .bool false
  | .writeText _ => .bool false
  | .readText => .text []
  | .writeBytes _ => .bool false
  | .readBytes => .bytes []
  | .handlerDone => .none
  | .uidQuery => .none
  | .blockRead _ => .none
  | .blockWrite _ _ => .none
  | .uidRsp _ _ _ => .none
  | .ackRsp _ _ _ _ => .none
  | .readRsp _ _ _ => .none

/-- What a protocol operation returns when it finds CONN = 0 (42_transport.md R183): `trunc` is 0, as each operation's
pseudocode has it (44_card_session.md R234 for a write; log 13). -/
def disconnectedResult (i : Instr) : Result := ⟨sentinel i, .notConnected, false⟩

/-- The current agent issues operation `i`, or is inside it and waits for the lock. -/
def Ready (s : State) (i : Instr) : Prop :=
  taskOf s s.current = none ∨ taskOf s s.current = some ⟨i, .lockWait⟩

/-- The three request frames (30_encoding.md R81 to R83). -/
def isRequestFrame : Instr → Bool
  | .init _ _ => false
  | .disconnect => false
  | .reconnect => false
  | .registerHandler _ => false
  | .queryUid => false
  | .isInitialized => false
  | .isCardPresent => false
  | .writeText _ => false
  | .readText => false
  | .writeBytes _ => false
  | .readBytes => false
  | .handlerDone => false
  | .uidQuery => true
  | .blockRead _ => true
  | .blockWrite _ _ => true
  | .uidRsp _ _ _ => false
  | .ackRsp _ _ _ _ => false
  | .readRsp _ _ _ => false

/-- The current agent is inside operation `i` with locals `loc`, and its settle delay has ended. -/
def Settled (s : State) (i : Instr) (loc : Locals) : Prop :=
  taskOf s s.current = some ⟨i, .settle loc⟩ ∧ s.settleTimer = 0

/-- The UID of a 12-byte response, at offsets 7..10 (30_encoding.md R90). -/
def uidAt (r : Bytes) : Uid := ⟨r.getD 7 0#8, r.getD 8 0#8, r.getD 9 0#8, r.getD 10 0#8⟩

/-- The moves that carry an operation of agent `a` through `n` settle delays of `d`: time passes, then `a` goes on. -/
def resumes (a : Agent) (d : Nat) : Nat → List Event
  | 0 => []
  | n + 1 => .elapse d :: .run a :: resumes a d n

/-- `n` steps, stopping at the first fault or refusal. -/
def runSteps : Nat → State → Out
  | 0, s => .next s
  | n + 1, s =>
    match step s with
    | .next t => runSteps n t
    | .fault f => .fault f
    | .refused r => .refused r

/-- The frames the block may put on the line (20_memory.md R51, R52, 30_encoding.md R95, R97): the UID query, and
block reads and writes of elements of BLOCK_SEQ. -/
def EmittedFrame (p : Params) (f : Bytes) : Prop :=
  f = frameBytes .uidQuery ∨ (∃ b ∈ blockSeq p, f = frameBytes (.blockRead b)) ∨
    (∃ b ∈ blockSeq p, ∃ d : Bytes, d.length = 16 ∧ f = frameBytes (.blockWrite b d))

/-- What every returned result satisfies (30_encoding.md R105 to R107, 43_block_io.md R205): a value-less one is
E_OK; true is never returned with an error; only Booleans carry `trunc`; bytes are at most 16 · `P_BLOCK_BUDGET`. -/
def LegalResult (p : Params) (r : Result) : Prop :=
  match r.val with
  | .none => r.err = .ok ∧ r.trunc = false
  | .bool b => b = true → r.err = .ok
  | .text _ => r.trunc = false
  | .bytes b => r.trunc = false ∧ b.length ≤ 16 * budgetBlocks p.budget

/-- The invariant of the poll engine (10_state.md R35, 45_poll_loop.md R260, R268; 60_exceptions.md R319). -/
structure PollInv (s : State) : Prop where
  busyIff : s.busy = true ↔ s.pollState = .dispatching
  runningIff : s.running.isSome = true ↔ s.pollState = .dispatching
  detectingIff : s.pollTask.isSome = true ↔ s.pollState = .detecting
  pollRunsProbe : ∀ t, s.pollTask = some t → t.op = .isCardPresent
  signalIdle : s.doneSignal = true → s.pollState = .idle
  handlerInside : s.handlerTask.isSome = true → s.pollState = .dispatching
  handlerRegistered : s.pollState ≠ .idle → s.handlerValid = true

/-- The invariant of the link (20_memory.md R64, R65, 42_transport.md R183): the lock's holder is the one agent inside
a settle delay, and the link is up while anyone holds it; only link operations are ever in progress. -/
structure LinkInv (s : State) : Prop where
  holderIff : ∀ a, s.linkLock = .held a ↔ ∃ op loc, taskOf s a = some ⟨op, .settle loc⟩
  heldConnected : s.linkLock ≠ .free → s.conn = true
  linkOps : ∀ a t, taskOf s a = some t → isLinkOp t.op = true
  protocolOps : ∀ a op loc, taskOf s a = some ⟨op, .settle loc⟩ → isProtocolOp op = true
  cursorInRange : ∀ a op loc, taskOf s a = some ⟨op, .settle loc⟩ →
    loc.k < budgetBlocks s.cfg.budget ∧ loc.out.length ≤ 16 * loc.k

/-- The invariant of the buffers (10_state.md R32, R33, 20_memory.md R51, R52): TX_BUF is empty or holds a frame the
block may emit, with the lock held; every frame sent was such a frame; RX_FIFO fits its capacity. -/
structure BufferInv (s : State) : Prop where
  fits : s.rxFifo.length ≤ s.rxCap
  capacity : s.rxCap = s.cfg.rxCapacity
  pending : s.txBuf = [] ∨ (s.linkLock ≠ .free ∧ EmittedFrame s.cfg s.txBuf)
  sent : ∀ f ∈ s.wire, EmittedFrame s.cfg f

/-- The invariant of the configuration, of TAG's canonical form, of the list of operations in progress and of the
results (00_scope.md R9, 10_state.md R24, 30_encoding.md R105). -/
structure DataInv (s : State) : Prop where
  legal : paramsLegal s.cfg = true
  connectedConfigured : s.conn = true → s.cfgValid = true
  tagWf : memoryWf s.tag = true
  hostsSorted : sparseSorted s.hostTasks = true
  hostsExist : ∀ c ∈ s.hostTasks, c.1 ≠ 0
  resultsLegal : ∀ r ∈ s.returns, LegalResult s.cfg r.2

/-- The whole invariant. -/
structure Inv (s : State) : Prop where
  poll : PollInv s
  link : LinkInv s
  buffer : BufferInv s
  data : DataInv s

/-- The move lets agent `a` take a step. -/
def picks (e : Event) (a : Agent) : Bool :=
  match e with
  | .run b => a == b
  | .request _ _ _ => false
  | .receive _ => false
  | .elapse _ => false
  | .setCard _ => false

/-- The move lets time pass. -/
def timePasses (e : Event) : Bool :=
  match e with
  | .elapse d => d != 0
  | .request _ _ _ => false
  | .run _ => false
  | .receive _ => false
  | .setCard _ => false

/-- Weak fairness of the lock's grants along a run (60_exceptions.md R318, 20_memory.md R65): an agent that waits for a
lock that is free again and again does not wait for ever. -/
def LockFair (run : Nat → State) : Prop :=
  ∀ a n op, taskOf (run n) a = some ⟨op, .lockWait⟩ → (∀ i, ∃ j, i ≤ j ∧ (run j).linkLock = .free) →
    ∃ m, n ≤ m ∧ taskOf (run m) a ≠ some ⟨op, .lockWait⟩

/-- Weak fairness of a schedule (60_exceptions.md R318): every agent is picked again and again, and time goes on. It
is a hypothesis for claims about schedules; no step depends on it (log 23). -/
def WeaklyFair (schedule : Nat → Event) : Prop :=
  (∀ a n, ∃ m, n ≤ m ∧ picks (schedule m) a = true) ∧ (∀ n, ∃ m, n ≤ m ∧ timePasses (schedule m) = true)

end Sys2Proof.Machine
end

