-- ==== Sys2Proof/Certificates/Slice0/Obligations.lean ====
section
/-!
DEFINITION. The statements for the provers. Each docstring names the rule or the sections of spec/ it rests on.
-/

open Sys2Proof Sys2Proof.Machine

/-! ## Encodings -/

/-- Decode and encode agree on every well-formed instruction, with every operand (30_encoding.md R81 to R83, R90 to
R92, R95, R100). -/
def Obligations.DecodeOfEncodeIsTheInstruction : Prop :=
  ∀ i : Instr, i.wellFormed = true → decode (encode i) = .ok i

/-- A byte sequence accepted as a request frame is exactly the frame the block emits for what it spells
(30_encoding.md R95: "The block never emits any other byte sequence"). -/
def Obligations.AcceptedRequestFramesAreTheEncoded : Prop :=
  ∀ (f : Bytes) (i : Instr), decode (.request f) = .ok i → encode i = .request f

/-- Responses are told by their length alone, and no byte of one is lost (30_encoding.md R93). -/
def Obligations.ResponsesAreToldByLength : Prop :=
  ∀ f : Bytes,
    (f.length = 12 → ∃ h u c, decode (.response f) = .ok (.uidRsp h u c) ∧ encode (.uidRsp h u c) = .response f) ∧
    (f.length = 8 → ∃ h a m c, decode (.response f) = .ok (.ackRsp h a m c) ∧
      encode (.ackRsp h a m c) = .response f) ∧
    (f.length = 22 → ∃ h d c, decode (.response f) = .ok (.readRsp h d c) ∧
      encode (.readRsp h d c) = .response f) ∧
    (f.length ≠ 12 → f.length ≠ 8 → f.length ≠ 22 → decode (.response f) = .error .noResponse)

/-- What R102 refuses (30_encoding.md): an op code outside 0x01..0x0C spells no operation, and a step asked for one
has no outcome; HANDLER_DONE by an agent other than HANDLER, or outside Dispatching, is refused likewise. -/
def Obligations.UnassignedOpcodesAndMisplacedDoneAreRefused : Prop :=
  (∀ (op : Byte) (args : List HostVal), (op = 0#8 ∨ 12 < op.toNat) →
    decode (.host op args) = .error (.unknownOpcode op)) ∧
  (∀ (s : State) (a : Agent) (op : Byte) (args : List HostVal) (rest : List Event), (op = 0#8 ∨ 12 < op.toNat) →
    s.txBuf = [] → s.events = .request a op args :: rest → taskOf s a = none →
    step s = .refused (.undecodable (.unknownOpcode op))) ∧
  (∀ s : State, (s.current ≠ .handler ∨ s.pollState ≠ .dispatching) →
    exec .handlerDone s = .refused .handlerDoneOutOfPlace)

/-- A few words, written out from the spec's tables, decode to the instructions they stand for (30_encoding.md R81 to
R83, R100). -/
def Obligations.SampleWordsDecode : Prop :=
  decode (.request [0x01#8, 0x08#8, 0xA1#8, 0x20#8, 0x00#8, 0x01#8, 0x00#8, 0x76#8]) = .ok .uidQuery ∧
  decode (.request [0x01#8, 0x08#8, 0xA3#8, 0x20#8, 0x08#8, 0x01#8, 0x00#8, 0x7C#8]) = .ok (.blockRead 8#8) ∧
  (∀ tx rx : PinId, decode (.host 0x01#8 [.pin tx, .pin rx]) = .ok (.init tx rx)) ∧
  decode (.host 0x0C#8 []) = .ok .handlerDone

/-! ## Checksum, frames, responses -/

/-- The laws of the checksum (40_checksum.md R123), for the frame `f ++ [c]`, and the source's property for the frames
the builders build. -/
def Obligations.ChecksumLaws : Prop :=
  (∀ (f : Bytes) (c : Byte), c = computeChecksum (f ++ [c]) ↔ xorFold (f ++ [c]) = 0xFF#8) ∧
  (∀ (f g : Bytes) (c : Byte), f.Perm g → computeChecksum (f ++ [c]) = computeChecksum (g ++ [c])) ∧
  (∀ (f g : Bytes) (c : Byte), computeChecksum (f ++ [0x00#8] ++ g ++ [c]) = computeChecksum (f ++ g ++ [c])) ∧
  (∀ (f g : Bytes) (x e c : Byte),
    computeChecksum (f ++ [x ^^^ e] ++ g ++ [c]) = computeChecksum (f ++ [x] ++ g ++ [c]) ^^^ e) ∧
  (∀ (f g : Bytes) (x e c : Byte), e ≠ 0#8 → verifyChecksum (f ++ [x] ++ g ++ [c]) = true →
    verifyChecksum (f ++ [x ^^^ e] ++ g ++ [c]) = false) ∧
  (∀ (f g h : Bytes) (x y e c : Byte), verifyChecksum (f ++ [x] ++ g ++ [y] ++ h ++ [c]) = true →
    verifyChecksum (f ++ [x ^^^ e] ++ g ++ [y ^^^ e] ++ h ++ [c]) = true) ∧
  (∀ (s : State) (b : Byte), verifyChecksum (buildUidQuery s).txBuf = true ∧
    verifyChecksum (buildBlockRead b s).txBuf = true ∧
    ∀ (d : Bytes) (t : State), buildBlockWrite b d s = .ok t → verifyChecksum t.txBuf = true)

/-- FILL_CHECKSUM writes the last byte of TX_BUF and nothing else, and twice is as once (40_checksum.md R121). -/
def Obligations.FillChecksumWritesTheLastByteOnly : Prop :=
  (∀ s : State, fillTxBuf s = { s with txBuf := fillChecksum s.txBuf }) ∧
  (∀ f : Bytes, f ≠ [] →
    (fillChecksum f).length = f.length ∧ (fillChecksum f).dropLast = f.dropLast ∧
    (fillChecksum f).getLast? = some (computeChecksum f) ∧
    fillChecksum (fillChecksum f) = fillChecksum f ∧ verifyChecksum (fillChecksum f) = true) ∧
  fillChecksum [0x01#8, 0x08#8, 0xA3#8, 0x20#8, 0x08#8, 0x01#8, 0x00#8, 0x00#8] =
    [0x01#8, 0x08#8, 0xA3#8, 0x20#8, 0x08#8, 0x01#8, 0x00#8, 0x7C#8]

/-- Every built frame satisfies R89, has the length of its length byte, and has its constant bytes (41_frame_codec.md
R147). -/
def Obligations.BuiltFramesHaveTheirConstants : Prop :=
  ∀ (s : State) (f : Bytes),
    (f = (buildUidQuery s).txBuf ∨ (∃ b, f = (buildBlockRead b s).txBuf) ∨
      (∃ b d t, buildBlockWrite b d s = .ok t ∧ f = t.txBuf)) →
    f.getLast? = some (not8 (xorFold f.dropLast)) ∧ f.length = (f.getD 1 0#8).toNat ∧
    f.getD 0 0#8 = 0x01#8 ∧ f.getD 3 0#8 = 0x20#8 ∧ f.getD 5 0#8 = 0x01#8

/-- BUILD_BLOCK_WRITE takes 16 data bytes and writes TX_BUF alone; any other length is refused (41_frame_codec.md
R142, 93_implementation_defined.md I17). -/
def Obligations.BlockWriteNeedsSixteenBytes : Prop :=
  ∀ (b : Byte) (d : Bytes) (s : State),
    (d.length = 16 → buildBlockWrite b d s =
      .ok { s with txBuf := [0x01#8, 0x17#8, 0xA4#8, 0x20#8, b, 0x01#8] ++ d ++
        [not8 (xorFold ([0x01#8, 0x17#8, 0xA4#8, 0x20#8, b, 0x01#8] ++ d))] }) ∧
    (d.length ≠ 16 → buildBlockWrite b d s = .error .blockDataLength ∧
      exec (.blockWrite b d) s = .refused .blockDataLength)

/-- The three parsers on every response of their length, with the causes in their order (41_frame_codec.md R143 to
R146, 60_exceptions.md R307). -/
def Obligations.ParsersJudgeByLengthChecksumAndAck : Prop :=
  ∀ (v : Bool) (r : Bytes),
    (r.length = 12 → parseUidRsp v (some r) =
      if v = true ∧ verifyChecksum r = false then .error .checksum else .ok (uidAt r)) ∧
    (r.length = 8 → parseWriteAck v (some r) =
      if v = true ∧ verifyChecksum r = false then .error .checksum
      else if r.getD 4 0#8 = 0x00#8 then .ok () else .error .writeRejected) ∧
    (r.length = 22 → parseReadRsp v (some r) =
      if v = true ∧ verifyChecksum r = false then .error .checksum else .ok ((r.drop 5).take 16)) ∧
    parseUidRsp v none = .error .noResponse ∧ parseWriteAck v none = .error .noResponse ∧
    parseReadRsp v none = .error .noResponse

/-- Response bytes the block does not examine are accepted at any value and change nothing (30_encoding.md R94): with
validation on, as long as the checksum comes out the same; with validation off, the checksum slot too. -/
def Obligations.UnexaminedResponseBytesChangeNothing : Prop :=
  ∀ (s : State) (i : Instr) (loc : Locals) (r q : Bytes),
    (s.cfg.validateRx = true → verifyChecksum r = verifyChecksum q) → Settled s i loc →
    ((i = .queryUid ∨ i = .isCardPresent) → r.length = 12 → q.length = 12 → uidAt r = uidAt q →
      exec i { s with rxFifo := r } = exec i { s with rxFifo := q }) ∧
    (((∃ d, i = .writeBytes d) ∨ ∃ x, i = .writeText x) → r.length = 8 → q.length = 8 →
      r.getD 4 0#8 = q.getD 4 0#8 → exec i { s with rxFifo := r } = exec i { s with rxFifo := q }) ∧
    ((i = .readBytes ∨ i = .readText) → r.length = 22 → q.length = 22 →
      (r.drop 5).take 16 = (q.drop 5).take 16 → exec i { s with rxFifo := r } = exec i { s with rxFifo := q })

/-! ## Connection control -/

/-- INIT records the pins and connects, in any state of the link, once it has the lock; until then it waits. Nothing
else changes but that the operation is over and its result returned (42_transport.md R180, R171). -/
def Obligations.InitRecordsPinsAndConnects : Prop :=
  (∀ (tx rx : PinId) (s : State), Ready s (.init tx rx) → s.linkLock = .free →
    exec (.init tx rx) s =
      .next { setTask s s.current none with
        conn := true, cfgValid := true, cfgTx := tx, cfgRx := rx,
        returns := (s.current, ⟨.none, .ok, false⟩) :: s.returns }) ∧
  (∀ (tx rx : PinId) (s : State) (a : Agent), Ready s (.init tx rx) → s.linkLock = .held a →
    exec (.init tx rx) s = .next (setTask s s.current (some ⟨.init tx rx, .lockWait⟩))) ∧
  (∀ tx rx : PinId, ∃ t, exec (.init tx rx) State.reset = .next t ∧ t.conn = true)

/-- DISCONNECT clears CONN and keeps the pins and everything else, once it has the lock; until then it waits. After it
the protocol operations do nothing but answer empty or false (42_transport.md R172, R183). Their `trunc` is the 0 of
44_card_session.md R234 (log 13). -/
def Obligations.DisconnectKeepsThePins : Prop :=
  (∀ s : State, Ready s .disconnect → s.linkLock = .free →
    exec .disconnect s =
      .next { setTask s s.current none with
        conn := false, returns := (s.current, ⟨.none, .ok, false⟩) :: s.returns }) ∧
  (∀ (s : State) (a : Agent), Ready s .disconnect → s.linkLock = .held a →
    exec .disconnect s = .next (setTask s s.current (some ⟨.disconnect, .lockWait⟩))) ∧
  (∀ (i : Instr) (s t : State), Ready s .disconnect → s.linkLock = .free → s.current ≠ .poll →
    exec .disconnect s = .next t → isProtocolOp i = true →
    exec i t = .next { setTask t t.current none with
      returns := (t.current, disconnectedResult i) :: t.returns })

/-- RECONNECT connects with the pins last configured if there are any, and has no effect otherwise; it waits for the
lock first (42_transport.md R173). -/
def Obligations.ReconnectNeedsPins : Prop :=
  (∀ s : State, Ready s .reconnect → s.linkLock = .free →
    exec .reconnect s =
      .next { setTask s s.current none with
        conn := s.cfgValid || s.conn, returns := (s.current, ⟨.none, .ok, false⟩) :: s.returns }) ∧
  (∀ (s : State) (a : Agent), Ready s .reconnect → s.linkLock = .held a →
    exec .reconnect s = .next (setTask s s.current (some ⟨.reconnect, .lockWait⟩))) ∧
  (∃ t, exec .reconnect State.reset = .next t ∧ t.conn = false) ∧
  (∀ (tx rx : PinId) (s t u : State), Ready s (.init tx rx) → s.linkLock = .free →
    exec (.init tx rx) s = .next t → exec .disconnect t = .next u →
    ∃ v, exec .reconnect u = .next v ∧ v.conn = true ∧ v.cfgTx = tx ∧ v.cfgRx = rx)

/-! ## LINK_LOCK, gating, waiting -/

/-- A link operation that finds the lock held waits for it and changes nothing else (20_memory.md R65). -/
def Obligations.LinkOperationsWaitForTheLock : Prop :=
  ∀ (i : Instr) (s : State) (a : Agent), isLinkOp i = true → Ready s i → s.linkLock = .held a →
    exec i s = .next (setTask s s.current (some ⟨i, .lockWait⟩))

/-- Disconnected gating (42_transport.md R183): with CONN = 0 a protocol operation that gets the lock sends no frame,
starts no settle delay and returns its sentinel with E_NOT_CONNECTED, and the poll engine's detection answers false;
CONN does not change while the lock is held. The sentinel's `trunc` is the 0 of 44_card_session.md R234 (log 13). -/
def Obligations.DisconnectedOperationsReturnTheirSentinel : Prop :=
  (∀ (i : Instr) (s : State), isProtocolOp i = true → Ready s i → s.linkLock = .free → s.conn = false →
    s.current ≠ .poll →
    exec i s = .next { setTask s s.current none with
      returns := (s.current, disconnectedResult i) :: s.returns }) ∧
  (∀ s : State, Ready s .isCardPresent → s.linkLock = .free → s.conn = false → s.current = .poll →
    exec .isCardPresent s = .next { s with
      pollTask := none, pollState := .idle, pollTimer := s.cfg.pollIntervalMs }) ∧
  (∀ s t : State, s.linkLock ≠ .free → step s = .next t → t.conn = s.conn)

/-- The frame a protocol operation builds first, its locals, and the start of its settle delay: a UID query, the write
of the first chunk, or the read of the first block (44_card_session.md R231 to R237, 43_block_io.md R204, R205). That
the frame is still in TX_BUF when this step ends, and goes out in the next one, is the model's choice (log 10). -/
def Obligations.ConnectedOperationsBuildTheirFirstFrame : Prop :=
  ∀ (i : Instr) (s : State) (b : Byte), Ready s i → s.linkLock = .free → s.conn = true →
    (blockSeq s.cfg)[0]? = some b →
    ((i = .queryUid ∨ i = .isCardPresent) → exec i s =
      .next (setTask { s with linkLock := .held s.current, settleTimer := s.cfg.settleMs,
                              txBuf := frameBytes .uidQuery }
        s.current (some ⟨i, .settle ⟨0, [], []⟩⟩))) ∧
    (∀ data, (i = .writeBytes data ∨ ∃ x, i = .writeText x ∧ data = Config.utf8Encode x) → exec i s =
      .next (setTask { s with linkLock := .held s.current, settleTimer := s.cfg.settleMs,
                              txBuf := frameBytes (.blockWrite b (chunk (data ++ [0#8, 0#8]) 0)) }
        s.current (some ⟨i, .settle ⟨0, [], data ++ [0#8, 0#8]⟩⟩))) ∧
    ((i = .readBytes ∨ i = .readText) → exec i s =
      .next (setTask { s with linkLock := .held s.current, settleTimer := s.cfg.settleMs,
                              txBuf := frameBytes (.blockRead b) }
        s.current (some ⟨i, .settle ⟨0, [], []⟩⟩)))

/-- While its settle delay runs, an operation does nothing (42_transport.md R178, R182). -/
def Obligations.SettleDelayIsWaitedOut : Prop :=
  ∀ (i : Instr) (s : State) (loc : Locals), isProtocolOp i = true →
    taskOf s s.current = some ⟨i, .settle loc⟩ → s.settleTimer ≠ 0 → exec i s = .next s

/-! ## CardSession and BlockIO operations, once their settle delay has ended -/

/-- QUERY_UID: 12 bytes give the UID, LAST_UID and the rendered string; a bad checksum or another count gives the
empty string with its error and leaves LAST_UID alone (44_card_session.md R231). -/
def Obligations.QueryUidAnswers : Prop :=
  ∀ (s : State) (loc : Locals), Settled s .queryUid loc →
    (s.rxFifo.length = 12 → (s.cfg.validateRx = true → verifyChecksum s.rxFifo = true) →
      exec .queryUid s = .next { setTask s s.current none with
        linkLock := .free, rxFifo := [], lastUid := uidAt s.rxFifo, lastUidWritten := true,
        returns := (s.current, ⟨.text (hexRender (uidAt s.rxFifo)), .ok, false⟩) :: s.returns }) ∧
    (s.rxFifo.length = 12 → s.cfg.validateRx = true → verifyChecksum s.rxFifo = false →
      exec .queryUid s = .next { setTask s s.current none with
        linkLock := .free, rxFifo := [],
        returns := (s.current, ⟨.text [], .checksum, false⟩) :: s.returns }) ∧
    (s.rxFifo.length ≠ 12 →
      exec .queryUid s = .next { setTask s s.current none with
        linkLock := .free, returns := (s.current, ⟨.text [], .noResponse, false⟩) :: s.returns })

/-- IS_CARD_PRESENT by a host agent: it answers true on a well-formed response and never writes LAST_UID
(44_card_session.md R232). -/
def Obligations.IsCardPresentAnswers : Prop :=
  ∀ (s : State) (loc : Locals), Settled s .isCardPresent loc → s.current ≠ .poll →
    (s.rxFifo.length = 12 → (s.cfg.validateRx = true → verifyChecksum s.rxFifo = true) →
      exec .isCardPresent s = .next { setTask s s.current none with
        linkLock := .free, rxFifo := [],
        returns := (s.current, ⟨.bool true, .ok, false⟩) :: s.returns }) ∧
    (s.rxFifo.length = 12 → s.cfg.validateRx = true → verifyChecksum s.rxFifo = false →
      exec .isCardPresent s = .next { setTask s s.current none with
        linkLock := .free, rxFifo := [],
        returns := (s.current, ⟨.bool false, .checksum, false⟩) :: s.returns }) ∧
    (s.rxFifo.length ≠ 12 →
      exec .isCardPresent s = .next { setTask s s.current none with
        linkLock := .free, returns := (s.current, ⟨.bool false, .noResponse, false⟩) :: s.returns })

/-- IS_INITIALIZED reports CONN, without the lock, whatever other agents do (44_card_session.md R233): false after
reset, true after INIT or a successful RECONNECT. -/
def Obligations.IsInitializedReportsConn : Prop :=
  (∀ s : State, taskOf s s.current = none →
    exec .isInitialized s = .next { s with returns := (s.current, ⟨.bool s.conn, .ok, false⟩) :: s.returns }) ∧
  (∃ t, exec .isInitialized State.reset = .next t ∧ t.returns = [(State.reset.current, ⟨.bool false, .ok, false⟩)]) ∧
  (∀ (i : Instr) (s t : State), ((∃ tx rx, i = .init tx rx) ∨ (i = .reconnect ∧ s.cfgValid = true)) → Ready s i →
    s.linkLock = .free → exec i s = .next t →
    exec .isInitialized t = .next { t with returns := (t.current, ⟨.bool true, .ok, false⟩) :: t.returns })

/-- WRITE_BYTES and WRITE_TEXT after the acknowledgement of block k: the next block, or true after the last one, with
`trunc`; an error ends the operation with false and leaves no frame (43_block_io.md R204, 44_card_session.md R234,
R236). That the next frame is still in TX_BUF when this step ends is the model's choice (log 10). -/
def Obligations.StreamWriteGoesOnOrEnds : Prop :=
  ∀ (i : Instr) (s : State) (k : Nat) (out stream : Bytes),
    ((∃ data, i = .writeBytes data) ∨ ∃ x, i = .writeText x) → Settled s i ⟨k, out, stream⟩ →
    (s.rxFifo.length = 8 → (s.cfg.validateRx = true → verifyChecksum s.rxFifo = true) →
      s.rxFifo.getD 4 0#8 = 0#8 → (writtenBlocks s.cfg stream.length)[k + 1]? = none →
      exec i s = .next { setTask s s.current none with
        linkLock := .free, rxFifo := [],
        returns := (s.current, ⟨.bool true, .ok, decide (16 * budgetBlocks s.cfg.budget < stream.length)⟩) ::
          s.returns }) ∧
    (∀ b, s.rxFifo.length = 8 → (s.cfg.validateRx = true → verifyChecksum s.rxFifo = true) →
      s.rxFifo.getD 4 0#8 = 0#8 → (writtenBlocks s.cfg stream.length)[k + 1]? = some b →
      exec i s = .next (setTask { s with rxFifo := [], settleTimer := s.cfg.settleMs,
                                         txBuf := frameBytes (.blockWrite b (chunk stream (k + 1))) }
        s.current (some ⟨i, .settle ⟨k + 1, [], stream⟩⟩))) ∧
    (s.rxFifo.length = 8 → (s.cfg.validateRx = true → verifyChecksum s.rxFifo = true) →
      s.rxFifo.getD 4 0#8 ≠ 0#8 →
      exec i s = .next { setTask s s.current none with
        linkLock := .free, rxFifo := [],
        returns := (s.current,
          ⟨.bool false, .writeRejected, decide (16 * budgetBlocks s.cfg.budget < stream.length)⟩) :: s.returns }) ∧
    (s.rxFifo.length = 8 → s.cfg.validateRx = true → verifyChecksum s.rxFifo = false →
      exec i s = .next { setTask s s.current none with
        linkLock := .free, rxFifo := [],
        returns := (s.current,
          ⟨.bool false, .checksum, decide (16 * budgetBlocks s.cfg.budget < stream.length)⟩) :: s.returns }) ∧
    (s.rxFifo.length ≠ 8 →
      exec i s = .next { setTask s s.current none with
        linkLock := .free,
        returns := (s.current,
          ⟨.bool false, .noResponse, decide (16 * budgetBlocks s.cfg.budget < stream.length)⟩) :: s.returns })

/-- READ_BYTES and READ_TEXT after the response for block k: a zero pair ends the stream before it, a block without
one is added and the next is read, or the stream ends after the last block (43_block_io.md R205, 44_card_session.md
R235, R237). That the next frame is still in TX_BUF when this step ends is the model's choice (log 10). -/
def Obligations.StreamReadGoesOnOrEnds : Prop :=
  ∀ (i : Instr) (wrap : Bytes → Val) (s : State) (k : Nat) (out stream blk : Bytes),
    ((i = .readBytes ∧ wrap = Val.bytes) ∨ (i = .readText ∧ wrap = fun b => Val.text (utf8Decode b))) →
    Settled s i ⟨k, out, stream⟩ → s.rxFifo.length = 22 →
    (s.cfg.validateRx = true → verifyChecksum s.rxFifo = true) → blk = (s.rxFifo.drop 5).take 16 →
    (∀ j, findPair blk = some j →
      exec i s = .next { setTask s s.current none with
        linkLock := .free, rxFifo := [],
        returns := (s.current, ⟨wrap (out ++ blk.take j), .ok, false⟩) :: s.returns }) ∧
    (findPair blk = none → (blockSeq s.cfg)[k + 1]? = none →
      exec i s = .next { setTask s s.current none with
        linkLock := .free, rxFifo := [],
        returns := (s.current, ⟨wrap (out ++ blk), .ok, false⟩) :: s.returns }) ∧
    (∀ b, findPair blk = none → (blockSeq s.cfg)[k + 1]? = some b →
      exec i s = .next (setTask { s with rxFifo := [], settleTimer := s.cfg.settleMs,
                                         txBuf := frameBytes (.blockRead b) }
        s.current (some ⟨i, .settle ⟨k + 1, out ++ blk, []⟩⟩)))

/-- READ_BYTES and READ_TEXT on a failed block read return what was accumulated, with the block's error
(43_block_io.md R205, 30_encoding.md R106). -/
def Obligations.StreamReadFailureKeepsWhatWasRead : Prop :=
  ∀ (i : Instr) (wrap : Bytes → Val) (s : State) (k : Nat) (out stream : Bytes),
    ((i = .readBytes ∧ wrap = Val.bytes) ∨ (i = .readText ∧ wrap = fun b => Val.text (utf8Decode b))) →
    Settled s i ⟨k, out, stream⟩ →
    (s.rxFifo.length ≠ 22 →
      exec i s = .next { setTask s s.current none with
        linkLock := .free, returns := (s.current, ⟨wrap out, .noResponse, false⟩) :: s.returns }) ∧
    (s.rxFifo.length = 22 → s.cfg.validateRx = true → verifyChecksum s.rxFifo = false →
      exec i s = .next { setTask s s.current none with
        linkLock := .free, rxFifo := [],
        returns := (s.current, ⟨wrap out, .checksum, false⟩) :: s.returns })

/-- FIND_PAIR is the least offset of two adjacent zero bytes (43_block_io.md R203). -/
def Obligations.FindPairIsTheFirstZeroPair : Prop :=
  ∀ (blk : Bytes) (i : Nat),
    (findPair blk = some i ↔
      (blk[i]? = some 0#8 ∧ blk[i + 1]? = some 0#8 ∧
        ∀ j < i, ¬ (blk[j]? = some 0#8 ∧ blk[j + 1]? = some 0#8))) ∧
    (blk.length = 16 → findPair blk = some i → i ≤ 14)

/-- BLOCK_SEQ (43_block_io.md R200): ascending, from the base on, without the reserved indices, as many as the budget
under legal parameters, and no usable index is passed over. -/
def Obligations.BlockSeqIsTheFirstUsableBlocks : Prop :=
  ∀ p : Params,
    (blockSeq p).Pairwise (fun b c => b.toNat < c.toNat) ∧
    (∀ b ∈ blockSeq p, p.base.toNat ≤ b.toNat ∧ b ∉ p.reserved) ∧
    (∀ c : Byte, p.base.toNat ≤ c.toNat → c ∉ p.reserved → c ∉ blockSeq p →
      (blockSeq p).length = budgetBlocks p.budget ∧ ∀ b ∈ blockSeq p, b.toNat < c.toNat) ∧
    (paramsLegal p = true → (blockSeq p).length = budgetBlocks p.budget) ∧
    blockSeq paramsTC1 = [8#8, 9#8, 10#8, 12#8, 13#8, 14#8]

/-- HEX_RENDER (44_card_session.md R230): two characters of "0123456789ABCDEF" for each byte, the most significant
nibble first; so eight characters, and different ones for different UIDs. -/
def Obligations.HexRenderIsFaithful : Prop :=
  (∀ u : Uid, hexRender u =
    [u.u0.toNat / 16, u.u0.toNat % 16, u.u1.toNat / 16, u.u1.toNat % 16, u.u2.toNat / 16, u.u2.toNat % 16,
      u.u3.toNat / 16, u.u3.toNat % 16].map (fun n =>
        ['0', '1', '2', '3', '4', '5', '6', '7', '8', '9', 'A', 'B', 'C', 'D', 'E', 'F'].getD n '?')) ∧
  (∀ u : Uid, (hexRender u).length = 8 ∧
    ∀ c ∈ hexRender u, (0x30 ≤ c.toNat ∧ c.toNat ≤ 0x39) ∨ (0x41 ≤ c.toNat ∧ c.toNat ≤ 0x46)) ∧
  (∀ u v : Uid, hexRender u = hexRender v → u = v) ∧
  hexRender ⟨0x00#8, 0x00#8, 0x00#8, 0x00#8⟩ = ['0', '0', '0', '0', '0', '0', '0', '0'] ∧
  hexRender ⟨0xDE#8, 0xAD#8, 0xBE#8, 0xEF#8⟩ = ['D', 'E', 'A', 'D', 'B', 'E', 'E', 'F']

/-! ## Frames on the line -/

/-- With the link up and the lock held, each request frame goes out whole: the receive buffer is fresh, TX_BUF is
consumed, and nothing else changes in that step where the other end is the unconstrained PARTNER, or SIMPARTNER
without a card, which delivers nothing and keeps TAG (42_transport.md R174, R175, R179, 20_memory.md R63; that TX_BUF
is left empty is the model's reading, log 11). The instruction is the sending half of the operation (logs 10 and 20).
-/
def Obligations.RequestFramesGoOut : Prop :=
  ∀ (i : Instr) (s : State),
    (i = .uidQuery ∨ (∃ b, i = .blockRead b) ∨ ∃ b d, i = .blockWrite b d ∧ d.length = 16) →
    s.conn = true → s.linkLock ≠ .free → (s.partner = .oracle ∨ s.partner = .sim none) →
    exec i s = .next { s with
      wire := frameBytes i :: s.wire, txBuf := [], rxFifo := [], rxCap := s.cfg.rxCapacity }

/-- With the link down or the lock free, where the block emits no frame (42_transport.md R174, R183), a request frame
is refused (the model's choice, log 20). -/
def Obligations.RequestFramesOutOfPlaceAreRefused : Prop :=
  ∀ (i : Instr) (s : State),
    (i = .uidQuery ∨ (∃ b, i = .blockRead b) ∨ ∃ b d, i = .blockWrite b d ∧ d.length = 16) →
    (s.conn = false ∨ s.linkLock = .free) → exec i s = .refused .frameOutOfPlace

/-- A response frame is appended to RX_FIFO as far as it fits, and nothing else changes (10_state.md R33, 20_memory.md
R54). -/
def Obligations.ResponseFramesArrive : Prop :=
  ∀ (i : Instr) (s : State),
    ((∃ h u c, i = .uidRsp h u c) ∨ (∃ h a m c, i = .ackRsp h a m c) ∨ ∃ h d c, i = .readRsp h d c) →
    exec i s = .next { s with rxFifo := s.rxFifo ++ (frameBytes i).take (s.rxCap - s.rxFifo.length) }

/-- SIMPARTNER with a card answers each request frame as 20_memory.md R63 says; a block write stores its 16 bytes in
its block of TAG and changes no other byte; the other two change none. That it replies at once is log 14. -/
def Obligations.SimPartnerAnswers : Prop :=
  ∀ (s : State) (u : Uid) (b : Byte) (d : Bytes), s.conn = true → s.linkLock ≠ .free → s.partner = .sim (some u) →
    22 ≤ s.cfg.rxCapacity → d.length = 16 →
    (∃ t, exec .uidQuery s = .next t ∧ t.tag = s.tag ∧
      t.rxFifo = fillChecksum [0x01#8, 0x0C#8, 0xA1#8, 0#8, 0#8, 0#8, 0#8, u.u0, u.u1, u.u2, u.u3, 0#8]) ∧
    (∃ t, exec (.blockRead b) s = .next t ∧ t.tag = s.tag ∧
      t.rxFifo = fillChecksum ([0x01#8, 0x16#8, 0xA3#8, 0#8, 0#8] ++ readBlock s.tag b ++ [0#8])) ∧
    (∃ t, exec (.blockWrite b d) s = .next t ∧
      t.rxFifo = [0x01#8, 0x08#8, 0xA4#8, 0#8, 0#8, 0#8, 0#8, 0x52#8] ∧ readBlock t.tag b = d ∧
      ∀ a, (∀ o < 16, a ≠ blockAddress b o) → readByte t.tag a = readByte s.tag a)

/-! ## The poll loop and the detection event -/

/-- REGISTER_HANDLER replaces the callback at once, in any state of the link; a callback already running goes on, the
next dispatch starts the new one, and no operation unregisters it (45_poll_loop.md R261). -/
def Obligations.RegisterHandlerReplaces : Prop :=
  (∀ (h : HandlerRef) (s : State), taskOf s s.current = none →
    exec (.registerHandler h) s = .next { s with
      handler := h, handlerValid := true, returns := (s.current, ⟨.none, .ok, false⟩) :: s.returns }) ∧
  (∀ (h₁ h₂ : HandlerRef) (s t u : State), exec (.registerHandler h₁) s = .next t →
    exec (.registerHandler h₂) t = .next u → (dispatch u).running = some h₂) ∧
  (∀ (i : Instr) (s t : State), s.handlerValid = true → exec i s = .next t → t.handlerValid = true)

/-- HANDLER_DONE (45_poll_loop.md R266, 60_exceptions.md R313): issued by HANDLER while Dispatching it ends the
dispatch and signals POLL, which goes on with the wait of the interval; any other issue is refused. -/
def Obligations.HandlerDoneEndsTheDispatch : Prop :=
  (∀ s : State, s.current = .handler → s.pollState = .dispatching → taskOf s .handler = none →
    exec .handlerDone s = .next { s with
      busy := false, pollState := .idle, running := none, doneSignal := true,
      returns := (.handler, ⟨.none, .ok, false⟩) :: s.returns }) ∧
  (∀ s : State, (s.current ≠ .handler ∨ s.pollState ≠ .dispatching) →
    exec .handlerDone s = .refused .handlerDoneOutOfPlace) ∧
  (∀ s : State, s.doneSignal = true →
    pollStep s = .next { s with doneSignal := false, pollTimer := s.cfg.pollIntervalMs })

/-- A positive detection enters the event (45_poll_loop.md R264, R263, 60_exceptions.md R312): nothing is saved, BUSY
and POLL_STATE are set and the callback registered now starts, in the step that releases the lock, whatever CONN and
HANDLER_VALID are by then; POLL then does nothing until HANDLER_DONE. -/
def Obligations.PositiveDetectionDispatches : Prop :=
  (∀ (s : State) (loc : Locals), s.current = .poll → Settled s .isCardPresent loc → s.rxFifo.length = 12 →
    (s.cfg.validateRx = true → verifyChecksum s.rxFifo = true) →
    exec .isCardPresent s = .next { s with
      linkLock := .free, rxFifo := [], pollTask := none,
      busy := true, pollState := .dispatching, running := some s.handler }) ∧
  (∀ s : State, s.doneSignal = false → s.pollState = .dispatching → pollStep s = .next s)

/-- A negative detection, for whatever reason, goes back to Idle and starts the interval (45_poll_loop.md R263, R267).
-/
def Obligations.NegativeDetectionGoesIdle : Prop :=
  ∀ (s : State) (loc : Locals), s.current = .poll → Settled s .isCardPresent loc →
    (s.rxFifo.length ≠ 12 →
      exec .isCardPresent s = .next { s with
        linkLock := .free, pollTask := none, pollState := .idle, pollTimer := s.cfg.pollIntervalMs }) ∧
    (s.rxFifo.length = 12 → s.cfg.validateRx = true → verifyChecksum s.rxFifo = false →
      exec .isCardPresent s = .next { s with
        linkLock := .free, rxFifo := [], pollTask := none, pollState := .idle,
        pollTimer := s.cfg.pollIntervalMs })

/-- A tick (45_poll_loop.md R262, R267): with its condition true it starts a detection; with the condition false it
only starts the interval. That the UID query is still in TX_BUF when this step ends, with the settle timer running, is
the model's choice (log 10). -/
def Obligations.TickDetectsOrWaits : Prop :=
  ∀ (s : State) (rest : List Event), s.txBuf = [] → s.events = .run .poll :: rest → s.doneSignal = false →
    s.pollState = .idle → s.pollTimer = 0 → s.pollTask = none →
    (s.conn = true → s.handlerValid = true → s.busy = false → s.linkLock = .free →
      step s = .next { s with
        events := rest, current := .poll, pollState := .detecting, linkLock := .held .poll,
        settleTimer := s.cfg.settleMs, txBuf := frameBytes .uidQuery,
        pollTask := some ⟨.isCardPresent, .settle ⟨0, [], []⟩⟩ }) ∧
    (∀ a, s.conn = true → s.handlerValid = true → s.busy = false → s.linkLock = .held a →
      step s = .next { s with
        events := rest, current := .poll, pollState := .detecting,
        pollTask := some ⟨.isCardPresent, .lockWait⟩ }) ∧
    ((s.conn = false ∨ s.handlerValid = false ∨ s.busy = true) →
      step s = .next { s with events := rest, current := .poll, pollTimer := s.cfg.pollIntervalMs })

/-- After a dispatch has ended POLL starts its interval; while the callback runs POLL does nothing, for ever if the
callback never ends (45_poll_loop.md R266, R267, R271). -/
def Obligations.PollWaitsForTheCallback : Prop :=
  ∀ (s : State) (rest : List Event), s.txBuf = [] → s.events = .run .poll :: rest →
    (s.doneSignal = true → step s = .next { s with
      events := rest, current := .poll, doneSignal := false, pollTimer := s.cfg.pollIntervalMs }) ∧
    (s.doneSignal = false → s.pollState = .dispatching → step s = .next { s with
      events := rest, current := .poll })

/-- POLL_STATE moves only along the transitions of 45_poll_loop.md R260, each with its cause: a tick whose condition
holds; a detection at the end of its settle delay with 12 bytes and, where validated, a good checksum; one with CONN =
0 at the grant of the lock, or with another count, or with a bad checksum where validated; HANDLER_DONE. -/
def Obligations.PollStateMovesAsStated : Prop :=
  ∀ s t : State, PollInv s → step s = .next t → t.pollState ≠ s.pollState →
    (s.pollState = .idle ∧ t.pollState = .detecting ∧ s.pollTimer = 0 ∧ s.conn = true ∧ s.handlerValid = true ∧
      s.busy = false) ∨
    (s.pollState = .detecting ∧ t.pollState = .dispatching ∧
      (∃ loc, s.pollTask = some ⟨.isCardPresent, .settle loc⟩) ∧ s.settleTimer = 0 ∧ s.rxFifo.length = 12 ∧
      (s.cfg.validateRx = true → verifyChecksum s.rxFifo = true)) ∨
    (s.pollState = .detecting ∧ t.pollState = .idle ∧ t.pollTimer = s.cfg.pollIntervalMs ∧
      ((s.pollTask = some ⟨.isCardPresent, .lockWait⟩ ∧ s.linkLock = .free ∧ s.conn = false) ∨
        ((∃ loc, s.pollTask = some ⟨.isCardPresent, .settle loc⟩) ∧ s.settleTimer = 0 ∧
          (s.rxFifo.length ≠ 12 ∨ (s.cfg.validateRx = true ∧ verifyChecksum s.rxFifo = false))))) ∨
    (s.pollState = .dispatching ∧ t.pollState = .idle ∧
      t.returns = (.handler, ⟨.none, .ok, false⟩) :: s.returns)

/-- No overlap (45_poll_loop.md R268): while a callback runs, no detection runs and no other callback starts, until
HANDLER_DONE. -/
def Obligations.NoSecondCallbackWhileOneRuns : Prop :=
  ∀ s t : State, PollInv s → s.busy = true → step s = .next t →
    (t.busy = true ∧ t.running = s.running ∧ t.pollTask = none) ∨
    (t.busy = false ∧ t.running = none ∧ t.returns = (.handler, ⟨.none, .ok, false⟩) :: s.returns)

/-! ## The step -/

/-- A request of an agent that may issue one runs the decoded instruction as that agent (30_encoding.md R100, R102).
-/
def Obligations.StepRunsTheRequestedOperation : Prop :=
  ∀ (s : State) (a : Agent) (op : Byte) (args : List HostVal) (rest : List Event) (i : Instr),
    s.txBuf = [] → s.events = .request a op args :: rest → taskOf s a = none → canIssue s a = true →
    decode (.host op args) = .ok i → step s = exec i { s with events := rest, current := a }

/-- The frame in TX_BUF runs before any move (the model's form of the atomic step, log 10); it is decoded as
30_encoding.md R95 says. -/
def Obligations.StepRunsTheFrameInTxBuf : Prop :=
  ∀ (s : State) (i : Instr), s.txBuf ≠ [] → decode (.request s.txBuf) = .ok i → step s = exec i s

/-- A response frame of PARTNER runs as the instruction its length tells (30_encoding.md R93). -/
def Obligations.StepRunsTheResponse : Prop :=
  ∀ (s : State) (bytes : Bytes) (rest : List Event) (i : Instr),
    s.txBuf = [] → s.events = .receive bytes :: rest → s.partner = .oracle →
    decode (.response bytes) = .ok i → step s = exec i { s with events := rest }

/-- The scheduler lets an agent go on with the operation it is inside, POLL with its detection (00_scope.md R11,
45_poll_loop.md R263). -/
def Obligations.StepResumesTheOperation : Prop :=
  ∀ (s : State) (a : Agent) (rest : List Event) (task : Task),
    s.txBuf = [] → s.events = .run a :: rest → taskOf s a = some task →
    (a ≠ .poll → step s = exec task.op { s with events := rest, current := a }) ∧
    (a = .poll → s.doneSignal = false → s.pollState = .detecting →
      step s = exec .isCardPresent { s with events := rest, current := .poll })

/-- The other moves of the outside world change only their own part of the state: time counts the two waits down
(00_scope.md R13, 10_state.md R30), bytes that are no response frame arrive all the same (20_memory.md R62),
SIMPARTNER delivers nothing of its own accord (R63), and a card comes or goes (95_test_vectors.md section 0). -/
def Obligations.OutsideMovesChangeOnlyTheirPart : Prop :=
  ∀ (s : State) (rest : List Event), s.txBuf = [] →
    (∀ d, s.events = .elapse d :: rest → step s = .next { s with
      events := rest, pollTimer := s.pollTimer - d, settleTimer := s.settleTimer - d }) ∧
    (∀ bytes, s.events = .receive bytes :: rest → s.partner = .oracle →
      step s = .next { s with events := rest, rxFifo := s.rxFifo ++ bytes.take (s.rxCap - s.rxFifo.length) }) ∧
    (∀ bytes card, s.events = .receive bytes :: rest → s.partner = .sim card →
      step s = .next { s with events := rest }) ∧
    (∀ card card', s.events = .setCard card' :: rest → s.partner = .sim card →
      step s = .next { s with events := rest, partner := .sim card' })

/-- A placed opcode-table word is run by the very next step (the model's interface, logs 18 and 19): a request frame
on the placed state itself; a host operation or a response frame on the placed state without the placed move, and a
host operation as the agent that issues it, HANDLER for HANDLER_DONE and HOST_1 for the others. -/
def Obligations.PlacedWordRunsNext : Prop :=
  ∀ (s : State) (nbits w : Nat) (i : Instr), decodeTableWord nbits w = some i →
    ∃ m, tableMessage nbits w = some m ∧ decode m = .ok i ∧ s.withFetchWord nbits w = placeMessage m s ∧
      (∀ frame, m = .request frame → step (s.withFetchWord nbits w) = exec i (s.withFetchWord nbits w)) ∧
      (∀ op args, m = .host op args → step (s.withFetchWord nbits w) =
        exec i { s.withFetchWord nbits w with
          events := s.events, current := if i = .handlerDone then .handler else .host 1 }) ∧
      (∀ frame, m = .response frame → step (s.withFetchWord nbits w) =
        exec i { s.withFetchWord nbits w with events := s.events })

/-! ## What no instruction changes -/

/-- Each register has its writers: CONN is written by INIT, DISCONNECT and RECONNECT, the pins by INIT, LAST_UID by
QUERY_UID, HANDLER by REGISTER_HANDLER, BUSY and POLL_STATE by HANDLER_DONE and agent POLL, POLL_TIMER by agent POLL,
LINK_LOCK by the link operations, TX_BUF by the protocol operations and the request frames, RX_FIFO by those and the
response frames, RX_CAP by the request frames; the parameters and BAUD by none (10_state.md R23 to R33, R38). That
RX_CAP and the line are written by the request frames, and not by the operation whose frame it is, is the model's
choice (logs 10 and 20): 44_card_session.md R231 to R237 count them to the operation. -/
def Obligations.RegistersHaveTheirWriters : Prop :=
  ∀ (i : Instr) (s t : State), exec i s = .next t →
    (i ≠ .disconnect → i ≠ .reconnect → (∀ tx rx, i ≠ .init tx rx) → t.conn = s.conn) ∧
    ((∀ tx rx, i ≠ .init tx rx) → t.cfgTx = s.cfgTx ∧ t.cfgRx = s.cfgRx ∧ t.cfgValid = s.cfgValid) ∧
    (i ≠ .queryUid → t.lastUid = s.lastUid ∧ t.lastUidWritten = s.lastUidWritten) ∧
    ((∀ h, i ≠ .registerHandler h) → t.handler = s.handler ∧ t.handlerValid = s.handlerValid) ∧
    (i ≠ .handlerDone → s.current ≠ .poll →
      t.busy = s.busy ∧ t.pollState = s.pollState ∧ t.running = s.running ∧ t.doneSignal = s.doneSignal) ∧
    (s.current ≠ .poll → t.pollTimer = s.pollTimer) ∧
    (isLinkOp i = false → t.linkLock = s.linkLock) ∧
    (isProtocolOp i = false → t.settleTimer = s.settleTimer) ∧
    (isProtocolOp i = false → isRequestFrame i = false → t.txBuf = s.txBuf) ∧
    (isHostOp i = true → isProtocolOp i = false → t.rxFifo = s.rxFifo) ∧
    (isRequestFrame i = false → t.rxCap = s.rxCap) ∧
    (isHostOp i = true → t.wire = s.wire ∧ t.tag = s.tag) ∧
    t.cfg = s.cfg ∧ t.baud = s.baud ∧ t.current = s.current ∧ t.partner = s.partner ∧ t.events = s.events ∧
    t.drawn = s.drawn

/-- A host operation touches the tag only through the frames it builds: its own step sends nothing, changes no byte of
TAG and no other agent's operation in progress, and leaves RX_FIFO as it was or takes all of it (20_memory.md R60,
10_state.md R34). That the step of the operation itself sends no frame and leaves RX_CAP is the model's choice: the
frame goes out in the step after it (log 10). -/
def Obligations.HostOperationsLeaveTheTagAndOthersAlone : Prop :=
  ∀ (i : Instr) (s t : State), isHostOp i = true → exec i s = .next t →
    t.wire = s.wire ∧ (∀ a, readByte t.tag a = readByte s.tag a) ∧ t.rxCap = s.rxCap ∧
    (t.rxFifo = s.rxFifo ∨ t.rxFifo = []) ∧ (∀ a, a ≠ s.current → taskOf t a = taskOf s a)

/-- Errors are local (60_exceptions.md R308): the step that returns an error to a host agent writes none of CONN,
CFG_*, HANDLER*, BUSY, POLL_STATE, LAST_UID, and leaves the lock free and the agent outside any operation. -/
def Obligations.ErrorsAreLocal : Prop :=
  ∀ (i : Instr) (s t : State) (a : Agent) (r : Result), exec i s = .next t →
    t.returns = (a, r) :: s.returns → r.err ≠ .ok →
    t.conn = s.conn ∧ t.cfgValid = s.cfgValid ∧ t.cfgTx = s.cfgTx ∧ t.cfgRx = s.cfgRx ∧
    t.handlerValid = s.handlerValid ∧ t.handler = s.handler ∧ t.busy = s.busy ∧ t.pollState = s.pollState ∧
    t.lastUid = s.lastUid ∧ t.linkLock = .free ∧ taskOf t s.current = none ∧ a = s.current

/-! ## Reset and invariants -/

/-- The values the spec gives the state after reset (70_reset_and_hazards.md R331). -/
def Obligations.ResetLeavesTheStatedValues : Prop :=
  State.reset.conn = false ∧ State.reset.cfgValid = false ∧ baudValue State.reset.baud = 9600 ∧
  State.reset.handlerValid = false ∧ State.reset.busy = false ∧ State.reset.pollState = .idle ∧
  State.reset.linkLock = .free ∧ State.reset.txBuf = [] ∧ State.reset.rxFifo = [] ∧
  State.reset.rxCap = State.reset.cfg.rxCapacity ∧ State.reset.running = none ∧
  (∀ a, taskOf State.reset a = none) ∧ readLastUid State.reset = none

/-- Operations before INIT (70_reset_and_hazards.md R332), by any host agent from reset: protocol operations return
their sentinel with E_NOT_CONNECTED and send nothing, IS_INITIALIZED answers false, RECONNECT has no effect,
REGISTER_HANDLER takes effect, and a tick of POLL only waits. The sentinel's `trunc` is the 0 of 44_card_session.md
R234 (log 13), and the tick at the first choice of POLL rests on the model's POLL_TIMER = 0 at reset (log 8). -/
def Obligations.OperationsBeforeInit : Prop :=
  ∀ (k : Nat) (s : State), s = { State.reset with current := .host k } →
    (∀ i : Instr, isProtocolOp i = true →
      exec i s = .next { s with returns := [(.host k, disconnectedResult i)] }) ∧
    exec .isInitialized s = .next { s with returns := [(.host k, ⟨.bool false, .ok, false⟩)] } ∧
    exec .reconnect s = .next { s with returns := [(.host k, ⟨.none, .ok, false⟩)] } ∧
    (∀ h : HandlerRef, exec (.registerHandler h) s =
      .next { s with handler := h, handlerValid := true, returns := [(.host k, ⟨.none, .ok, false⟩)] }) ∧
    (∀ rest : List Event, step { s with events := .run .poll :: rest } =
      .next { s with events := rest, current := .poll, pollTimer := s.cfg.pollIntervalMs })

/-- The whole invariant holds at reset. -/
def Obligations.ResetMeetsTheInvariant : Prop := Inv State.reset

/-- Every step, under every schedule and every draw, keeps the poll engine's invariant: BUSY exactly while
Dispatching, a callback running exactly then, a detection in progress exactly while Detecting (10_state.md R35,
45_poll_loop.md R260, R268). -/
def Obligations.EveryStepKeepsThePollInvariant : Prop :=
  ∀ s t : State, PollInv s → step s = .next t → PollInv t

/-- Every step keeps the link's invariant: the lock's holder is the one agent inside a settle delay, and the link is
up while anyone holds it (20_memory.md R64, R65, 42_transport.md R183). -/
def Obligations.EveryStepKeepsTheLinkInvariant : Prop :=
  ∀ s t : State, LinkInv s → step s = .next t → LinkInv t

/-- Every step keeps the buffers' invariant: every frame ever sent is the UID query or addresses a block of BLOCK_SEQ,
and RX_FIFO fits its capacity (10_state.md R32, R33, 20_memory.md R51, R52, 30_encoding.md R97). That a frame may
stand in TX_BUF between steps is the model's choice (log 10). -/
def Obligations.EveryStepKeepsTheBufferInvariant : Prop :=
  ∀ s t : State, LinkInv s → BufferInv s → step s = .next t → BufferInv t

/-- Every step keeps the data's invariant: TAG in canonical form, legal parameters, pins known while connected, legal
results only (00_scope.md R9, 10_state.md R24, 30_encoding.md R105, 43_block_io.md R205). -/
def Obligations.EveryStepKeepsTheDataInvariant : Prop :=
  ∀ s t : State, LinkInv s → DataInv s → step s = .next t → DataInv t

/-- BUSY is 1 exactly while Dispatching (10_state.md R35): at reset, and after every step from a state where it is so;
a step that changes BUSY moves POLL_STATE to or from Dispatching, and the other way round. -/
def Obligations.BusyExactlyWhileDispatching : Prop :=
  (State.reset.busy = true ↔ State.reset.pollState = .dispatching) ∧
  ∀ s t : State, (s.busy = true ↔ s.pollState = .dispatching) → step s = .next t →
    (t.busy = true ↔ t.pollState = .dispatching) ∧
    (t.busy ≠ s.busy ↔
      ((s.pollState = .dispatching ∨ t.pollState = .dispatching) ∧ t.pollState ≠ s.pollState))

/-! ## Whole operations under SIMPARTNER -/

/-- QUERY_UID from issue to result with SIMPARTNER and a card present: its frame, one settle delay, and the UID
(44_card_session.md R231, 20_memory.md R63, 70_reset_and_hazards.md R343). That SIMPARTNER replies at once is log 14,
and that a frame goes out in a step of its own is log 10. -/
def Obligations.QueryUidUnderSimPartner : Prop :=
  ∀ (s : State) (a : Agent) (u : Uid) (rest : List Event), paramsLegal s.cfg = true → s.partner = .sim (some u) →
    s.conn = true → s.linkLock = .free → s.txBuf = [] → taskOf s a = none → canIssue s a = true →
    s.events = .request a 0x05#8 [] :: (resumes a s.cfg.settleMs 1 ++ rest) →
    ∃ t, runSteps 4 s = .next t ∧ t.events = rest ∧ t.linkLock = .free ∧ taskOf t a = none ∧ t.lastUid = u ∧
      t.wire = frameBytes .uidQuery :: s.wire ∧
      t.returns = (a, ⟨.text (hexRender u), .ok, false⟩) :: s.returns

/-- WRITE_STREAM from issue to result with SIMPARTNER and a card present: min(ceil((L + 2) / 16), B) block writes,
each chunk in its block, `trunc` exactly when L + 2 > 16 · B, `val` true all the same, and no other byte of the tag
changed (43_block_io.md R204, R206, R209, 44_card_session.md R234). That SIMPARTNER replies at once is log 14, and
that a frame goes out in a step of its own is log 10. -/
def Obligations.StreamWriteUnderSimPartner : Prop :=
  ∀ (s : State) (a : Agent) (u : Uid) (data : Bytes) (n : Nat) (rest : List Event),
    paramsLegal s.cfg = true → s.partner = .sim (some u) → s.conn = true → s.linkLock = .free → s.txBuf = [] →
    taskOf s a = none → canIssue s a = true →
    n = min ((data.length + 2 + 15) / 16) (budgetBlocks s.cfg.budget) →
    s.events = .request a 0x0A#8 [.bytes data] :: (resumes a s.cfg.settleMs n ++ rest) →
    ∃ t, runSteps (1 + 3 * n) s = .next t ∧ t.events = rest ∧ t.linkLock = .free ∧ taskOf t a = none ∧
      t.wire.length = s.wire.length + n ∧
      t.returns = (a, ⟨.bool true, .ok, decide (16 * budgetBlocks s.cfg.budget < data.length + 2)⟩) :: s.returns ∧
      (∀ k b, k < n → (blockSeq s.cfg)[k]? = some b → readBlock t.tag b = chunk (data ++ [0#8, 0#8]) k) ∧
      (∀ x, (∀ b ∈ (blockSeq s.cfg).take n, ∀ o < 16, x ≠ blockAddress b o) →
        readByte t.tag x = readByte s.tag x)

/-- The round trip under its true condition (43_block_io.md R207, 90_conflicts.md C2): with SIMPARTNER and a card
present, data without 0x00, of length at most 16 · B − 2 and not 15 modulo 16, written by WRITE_BYTES is what
READ_BYTES returns. That SIMPARTNER replies at once is log 14, and that a frame goes out in a step of its own is log
10. -/
def Obligations.WrittenBytesReadBack : Prop :=
  ∀ (s : State) (a : Agent) (u : Uid) (data : Bytes) (n : Nat) (rest : List Event),
    paramsLegal s.cfg = true → s.partner = .sim (some u) → s.conn = true → s.linkLock = .free → s.txBuf = [] →
    taskOf s a = none → canIssue s a = true →
    0x00#8 ∉ data → data.length ≤ 16 * budgetBlocks s.cfg.budget - 2 → data.length % 16 ≠ 15 →
    n = (data.length + 2 + 15) / 16 →
    s.events = .request a 0x0A#8 [.bytes data] :: (resumes a s.cfg.settleMs n ++
      .request a 0x0B#8 [] :: (resumes a s.cfg.settleMs n ++ rest)) →
    ∃ t, runSteps (2 * (1 + 3 * n)) s = .next t ∧ t.events = rest ∧
      t.returns = (a, ⟨.bytes data, .ok, false⟩) :: (a, ⟨.bool true, .ok, false⟩) :: s.returns

/-- The straddling terminator (43_block_io.md R207, R203): with length 15 modulo 16 and room for the terminator, one
0x00 more is read back. That SIMPARTNER replies at once is log 14, and that a frame goes out in a step of its own is
log 10. -/
def Obligations.StraddlingTerminatorAddsAZero : Prop :=
  ∀ (s : State) (a : Agent) (u : Uid) (data : Bytes) (n : Nat) (rest : List Event),
    paramsLegal s.cfg = true → s.partner = .sim (some u) → s.conn = true → s.linkLock = .free → s.txBuf = [] →
    taskOf s a = none → canIssue s a = true →
    0x00#8 ∉ data → data.length ≤ 16 * budgetBlocks s.cfg.budget - 2 → data.length % 16 = 15 →
    n = (data.length + 2 + 15) / 16 →
    s.events = .request a 0x0A#8 [.bytes data] :: (resumes a s.cfg.settleMs n ++
      .request a 0x0B#8 [] :: (resumes a s.cfg.settleMs n ++ rest)) →
    ∃ t, runSteps (2 * (1 + 3 * n)) s = .next t ∧ t.events = rest ∧
      t.returns = (a, ⟨.bytes (data ++ [0x00#8]), .ok, false⟩) :: (a, ⟨.bool true, .ok, false⟩) :: s.returns
end

