-- ==== Sys2Proof/Laws/State.lean ====
section
/-!
SUPPORT. One lemma for each field and each named update of the state: what the update leaves there.
-/

namespace Sys2Proof.Machine

/-! ### writeLastUid -/

@[simp] theorem writeLastUid_cfg (u : Uid) (s : State) :
    (writeLastUid u s).cfg = s.cfg := rfl
@[simp] theorem writeLastUid_conn (u : Uid) (s : State) :
    (writeLastUid u s).conn = s.conn := rfl
@[simp] theorem writeLastUid_cfgValid (u : Uid) (s : State) :
    (writeLastUid u s).cfgValid = s.cfgValid := rfl
@[simp] theorem writeLastUid_cfgTx (u : Uid) (s : State) :
    (writeLastUid u s).cfgTx = s.cfgTx := rfl
@[simp] theorem writeLastUid_cfgRx (u : Uid) (s : State) :
    (writeLastUid u s).cfgRx = s.cfgRx := rfl
@[simp] theorem writeLastUid_baud (u : Uid) (s : State) :
    (writeLastUid u s).baud = s.baud := rfl
@[simp] theorem writeLastUid_lastUid (u : Uid) (s : State) :
    (writeLastUid u s).lastUid = u := rfl
@[simp] theorem writeLastUid_lastUidWritten (u : Uid) (s : State) :
    (writeLastUid u s).lastUidWritten = true := rfl
@[simp] theorem writeLastUid_handlerValid (u : Uid) (s : State) :
    (writeLastUid u s).handlerValid = s.handlerValid := rfl
@[simp] theorem writeLastUid_handler (u : Uid) (s : State) :
    (writeLastUid u s).handler = s.handler := rfl
@[simp] theorem writeLastUid_busy (u : Uid) (s : State) :
    (writeLastUid u s).busy = s.busy := rfl
@[simp] theorem writeLastUid_pollState (u : Uid) (s : State) :
    (writeLastUid u s).pollState = s.pollState := rfl
@[simp] theorem writeLastUid_pollTimer (u : Uid) (s : State) :
    (writeLastUid u s).pollTimer = s.pollTimer := rfl
@[simp] theorem writeLastUid_linkLock (u : Uid) (s : State) :
    (writeLastUid u s).linkLock = s.linkLock := rfl
@[simp] theorem writeLastUid_txBuf (u : Uid) (s : State) :
    (writeLastUid u s).txBuf = s.txBuf := rfl
@[simp] theorem writeLastUid_rxFifo (u : Uid) (s : State) :
    (writeLastUid u s).rxFifo = s.rxFifo := rfl
@[simp] theorem writeLastUid_rxCap (u : Uid) (s : State) :
    (writeLastUid u s).rxCap = s.rxCap := rfl
@[simp] theorem writeLastUid_settleTimer (u : Uid) (s : State) :
    (writeLastUid u s).settleTimer = s.settleTimer := rfl
@[simp] theorem writeLastUid_hostTasks (u : Uid) (s : State) :
    (writeLastUid u s).hostTasks = s.hostTasks := rfl
@[simp] theorem writeLastUid_handlerTask (u : Uid) (s : State) :
    (writeLastUid u s).handlerTask = s.handlerTask := rfl
@[simp] theorem writeLastUid_pollTask (u : Uid) (s : State) :
    (writeLastUid u s).pollTask = s.pollTask := rfl
@[simp] theorem writeLastUid_running (u : Uid) (s : State) :
    (writeLastUid u s).running = s.running := rfl
@[simp] theorem writeLastUid_doneSignal (u : Uid) (s : State) :
    (writeLastUid u s).doneSignal = s.doneSignal := rfl
@[simp] theorem writeLastUid_current (u : Uid) (s : State) :
    (writeLastUid u s).current = s.current := rfl
@[simp] theorem writeLastUid_wire (u : Uid) (s : State) :
    (writeLastUid u s).wire = s.wire := rfl
@[simp] theorem writeLastUid_returns (u : Uid) (s : State) :
    (writeLastUid u s).returns = s.returns := rfl
@[simp] theorem writeLastUid_partner (u : Uid) (s : State) :
    (writeLastUid u s).partner = s.partner := rfl
@[simp] theorem writeLastUid_tag (u : Uid) (s : State) :
    (writeLastUid u s).tag = s.tag := rfl
@[simp] theorem writeLastUid_events (u : Uid) (s : State) :
    (writeLastUid u s).events = s.events := rfl
@[simp] theorem writeLastUid_drawn (u : Uid) (s : State) :
    (writeLastUid u s).drawn = s.drawn := rfl

/-! ### release -/

@[simp] theorem release_cfg (s : State) :
    (release s).cfg = s.cfg := rfl
@[simp] theorem release_conn (s : State) :
    (release s).conn = s.conn := rfl
@[simp] theorem release_cfgValid (s : State) :
    (release s).cfgValid = s.cfgValid := rfl
@[simp] theorem release_cfgTx (s : State) :
    (release s).cfgTx = s.cfgTx := rfl
@[simp] theorem release_cfgRx (s : State) :
    (release s).cfgRx = s.cfgRx := rfl
@[simp] theorem release_baud (s : State) :
    (release s).baud = s.baud := rfl
@[simp] theorem release_lastUid (s : State) :
    (release s).lastUid = s.lastUid := rfl
@[simp] theorem release_lastUidWritten (s : State) :
    (release s).lastUidWritten = s.lastUidWritten := rfl
@[simp] theorem release_handlerValid (s : State) :
    (release s).handlerValid = s.handlerValid := rfl
@[simp] theorem release_handler (s : State) :
    (release s).handler = s.handler := rfl
@[simp] theorem release_busy (s : State) :
    (release s).busy = s.busy := rfl
@[simp] theorem release_pollState (s : State) :
    (release s).pollState = s.pollState := rfl
@[simp] theorem release_pollTimer (s : State) :
    (release s).pollTimer = s.pollTimer := rfl
@[simp] theorem release_linkLock (s : State) :
    (release s).linkLock = .free := rfl
@[simp] theorem release_txBuf (s : State) :
    (release s).txBuf = s.txBuf := rfl
@[simp] theorem release_rxFifo (s : State) :
    (release s).rxFifo = s.rxFifo := rfl
@[simp] theorem release_rxCap (s : State) :
    (release s).rxCap = s.rxCap := rfl
@[simp] theorem release_settleTimer (s : State) :
    (release s).settleTimer = s.settleTimer := rfl
@[simp] theorem release_hostTasks (s : State) :
    (release s).hostTasks = s.hostTasks := rfl
@[simp] theorem release_handlerTask (s : State) :
    (release s).handlerTask = s.handlerTask := rfl
@[simp] theorem release_pollTask (s : State) :
    (release s).pollTask = s.pollTask := rfl
@[simp] theorem release_running (s : State) :
    (release s).running = s.running := rfl
@[simp] theorem release_doneSignal (s : State) :
    (release s).doneSignal = s.doneSignal := rfl
@[simp] theorem release_current (s : State) :
    (release s).current = s.current := rfl
@[simp] theorem release_wire (s : State) :
    (release s).wire = s.wire := rfl
@[simp] theorem release_returns (s : State) :
    (release s).returns = s.returns := rfl
@[simp] theorem release_partner (s : State) :
    (release s).partner = s.partner := rfl
@[simp] theorem release_tag (s : State) :
    (release s).tag = s.tag := rfl
@[simp] theorem release_events (s : State) :
    (release s).events = s.events := rfl
@[simp] theorem release_drawn (s : State) :
    (release s).drawn = s.drawn := rfl

/-! ### returnResult -/

@[simp] theorem returnResult_cfg (r : Result) (s : State) :
    (returnResult r s).cfg = s.cfg := rfl
@[simp] theorem returnResult_conn (r : Result) (s : State) :
    (returnResult r s).conn = s.conn := rfl
@[simp] theorem returnResult_cfgValid (r : Result) (s : State) :
    (returnResult r s).cfgValid = s.cfgValid := rfl
@[simp] theorem returnResult_cfgTx (r : Result) (s : State) :
    (returnResult r s).cfgTx = s.cfgTx := rfl
@[simp] theorem returnResult_cfgRx (r : Result) (s : State) :
    (returnResult r s).cfgRx = s.cfgRx := rfl
@[simp] theorem returnResult_baud (r : Result) (s : State) :
    (returnResult r s).baud = s.baud := rfl
@[simp] theorem returnResult_lastUid (r : Result) (s : State) :
    (returnResult r s).lastUid = s.lastUid := rfl
@[simp] theorem returnResult_lastUidWritten (r : Result) (s : State) :
    (returnResult r s).lastUidWritten = s.lastUidWritten := rfl
@[simp] theorem returnResult_handlerValid (r : Result) (s : State) :
    (returnResult r s).handlerValid = s.handlerValid := rfl
@[simp] theorem returnResult_handler (r : Result) (s : State) :
    (returnResult r s).handler = s.handler := rfl
@[simp] theorem returnResult_busy (r : Result) (s : State) :
    (returnResult r s).busy = s.busy := rfl
@[simp] theorem returnResult_pollState (r : Result) (s : State) :
    (returnResult r s).pollState = s.pollState := rfl
@[simp] theorem returnResult_pollTimer (r : Result) (s : State) :
    (returnResult r s).pollTimer = s.pollTimer := rfl
@[simp] theorem returnResult_linkLock (r : Result) (s : State) :
    (returnResult r s).linkLock = s.linkLock := rfl
@[simp] theorem returnResult_txBuf (r : Result) (s : State) :
    (returnResult r s).txBuf = s.txBuf := rfl
@[simp] theorem returnResult_rxFifo (r : Result) (s : State) :
    (returnResult r s).rxFifo = s.rxFifo := rfl
@[simp] theorem returnResult_rxCap (r : Result) (s : State) :
    (returnResult r s).rxCap = s.rxCap := rfl
@[simp] theorem returnResult_settleTimer (r : Result) (s : State) :
    (returnResult r s).settleTimer = s.settleTimer := rfl
@[simp] theorem returnResult_hostTasks (r : Result) (s : State) :
    (returnResult r s).hostTasks = s.hostTasks := rfl
@[simp] theorem returnResult_handlerTask (r : Result) (s : State) :
    (returnResult r s).handlerTask = s.handlerTask := rfl
@[simp] theorem returnResult_pollTask (r : Result) (s : State) :
    (returnResult r s).pollTask = s.pollTask := rfl
@[simp] theorem returnResult_running (r : Result) (s : State) :
    (returnResult r s).running = s.running := rfl
@[simp] theorem returnResult_doneSignal (r : Result) (s : State) :
    (returnResult r s).doneSignal = s.doneSignal := rfl
@[simp] theorem returnResult_current (r : Result) (s : State) :
    (returnResult r s).current = s.current := rfl
@[simp] theorem returnResult_wire (r : Result) (s : State) :
    (returnResult r s).wire = s.wire := rfl
@[simp] theorem returnResult_returns (r : Result) (s : State) :
    (returnResult r s).returns = (s.current, r) :: s.returns := rfl
@[simp] theorem returnResult_partner (r : Result) (s : State) :
    (returnResult r s).partner = s.partner := rfl
@[simp] theorem returnResult_tag (r : Result) (s : State) :
    (returnResult r s).tag = s.tag := rfl
@[simp] theorem returnResult_events (r : Result) (s : State) :
    (returnResult r s).events = s.events := rfl
@[simp] theorem returnResult_drawn (r : Result) (s : State) :
    (returnResult r s).drawn = s.drawn := rfl

/-! ### dispatch -/

@[simp] theorem dispatch_cfg (s : State) :
    (dispatch s).cfg = s.cfg := rfl
@[simp] theorem dispatch_conn (s : State) :
    (dispatch s).conn = s.conn := rfl
@[simp] theorem dispatch_cfgValid (s : State) :
    (dispatch s).cfgValid = s.cfgValid := rfl
@[simp] theorem dispatch_cfgTx (s : State) :
    (dispatch s).cfgTx = s.cfgTx := rfl
@[simp] theorem dispatch_cfgRx (s : State) :
    (dispatch s).cfgRx = s.cfgRx := rfl
@[simp] theorem dispatch_baud (s : State) :
    (dispatch s).baud = s.baud := rfl
@[simp] theorem dispatch_lastUid (s : State) :
    (dispatch s).lastUid = s.lastUid := rfl
@[simp] theorem dispatch_lastUidWritten (s : State) :
    (dispatch s).lastUidWritten = s.lastUidWritten := rfl
@[simp] theorem dispatch_handlerValid (s : State) :
    (dispatch s).handlerValid = s.handlerValid := rfl
@[simp] theorem dispatch_handler (s : State) :
    (dispatch s).handler = s.handler := rfl
@[simp] theorem dispatch_busy (s : State) :
    (dispatch s).busy = true := rfl
@[simp] theorem dispatch_pollState (s : State) :
    (dispatch s).pollState = .dispatching := rfl
@[simp] theorem dispatch_pollTimer (s : State) :
    (dispatch s).pollTimer = s.pollTimer := rfl
@[simp] theorem dispatch_linkLock (s : State) :
    (dispatch s).linkLock = s.linkLock := rfl
@[simp] theorem dispatch_txBuf (s : State) :
    (dispatch s).txBuf = s.txBuf := rfl
@[simp] theorem dispatch_rxFifo (s : State) :
    (dispatch s).rxFifo = s.rxFifo := rfl
@[simp] theorem dispatch_rxCap (s : State) :
    (dispatch s).rxCap = s.rxCap := rfl
@[simp] theorem dispatch_settleTimer (s : State) :
    (dispatch s).settleTimer = s.settleTimer := rfl
@[simp] theorem dispatch_hostTasks (s : State) :
    (dispatch s).hostTasks = s.hostTasks := rfl
@[simp] theorem dispatch_handlerTask (s : State) :
    (dispatch s).handlerTask = s.handlerTask := rfl
@[simp] theorem dispatch_pollTask (s : State) :
    (dispatch s).pollTask = s.pollTask := rfl
@[simp] theorem dispatch_running (s : State) :
    (dispatch s).running = some s.handler := rfl
@[simp] theorem dispatch_doneSignal (s : State) :
    (dispatch s).doneSignal = s.doneSignal := rfl
@[simp] theorem dispatch_current (s : State) :
    (dispatch s).current = s.current := rfl
@[simp] theorem dispatch_wire (s : State) :
    (dispatch s).wire = s.wire := rfl
@[simp] theorem dispatch_returns (s : State) :
    (dispatch s).returns = s.returns := rfl
@[simp] theorem dispatch_partner (s : State) :
    (dispatch s).partner = s.partner := rfl
@[simp] theorem dispatch_tag (s : State) :
    (dispatch s).tag = s.tag := rfl
@[simp] theorem dispatch_events (s : State) :
    (dispatch s).events = s.events := rfl
@[simp] theorem dispatch_drawn (s : State) :
    (dispatch s).drawn = s.drawn := rfl

/-! ### eventReturn -/

@[simp] theorem eventReturn_cfg (s : State) :
    (eventReturn s).cfg = s.cfg := rfl
@[simp] theorem eventReturn_conn (s : State) :
    (eventReturn s).conn = s.conn := rfl
@[simp] theorem eventReturn_cfgValid (s : State) :
    (eventReturn s).cfgValid = s.cfgValid := rfl
@[simp] theorem eventReturn_cfgTx (s : State) :
    (eventReturn s).cfgTx = s.cfgTx := rfl
@[simp] theorem eventReturn_cfgRx (s : State) :
    (eventReturn s).cfgRx = s.cfgRx := rfl
@[simp] theorem eventReturn_baud (s : State) :
    (eventReturn s).baud = s.baud := rfl
@[simp] theorem eventReturn_lastUid (s : State) :
    (eventReturn s).lastUid = s.lastUid := rfl
@[simp] theorem eventReturn_lastUidWritten (s : State) :
    (eventReturn s).lastUidWritten = s.lastUidWritten := rfl
@[simp] theorem eventReturn_handlerValid (s : State) :
    (eventReturn s).handlerValid = s.handlerValid := rfl
@[simp] theorem eventReturn_handler (s : State) :
    (eventReturn s).handler = s.handler := rfl
@[simp] theorem eventReturn_busy (s : State) :
    (eventReturn s).busy = false := rfl
@[simp] theorem eventReturn_pollState (s : State) :
    (eventReturn s).pollState = .idle := rfl
@[simp] theorem eventReturn_pollTimer (s : State) :
    (eventReturn s).pollTimer = s.pollTimer := rfl
@[simp] theorem eventReturn_linkLock (s : State) :
    (eventReturn s).linkLock = s.linkLock := rfl
@[simp] theorem eventReturn_txBuf (s : State) :
    (eventReturn s).txBuf = s.txBuf := rfl
@[simp] theorem eventReturn_rxFifo (s : State) :
    (eventReturn s).rxFifo = s.rxFifo := rfl
@[simp] theorem eventReturn_rxCap (s : State) :
    (eventReturn s).rxCap = s.rxCap := rfl
@[simp] theorem eventReturn_settleTimer (s : State) :
    (eventReturn s).settleTimer = s.settleTimer := rfl
@[simp] theorem eventReturn_hostTasks (s : State) :
    (eventReturn s).hostTasks = s.hostTasks := rfl
@[simp] theorem eventReturn_handlerTask (s : State) :
    (eventReturn s).handlerTask = s.handlerTask := rfl
@[simp] theorem eventReturn_pollTask (s : State) :
    (eventReturn s).pollTask = s.pollTask := rfl
@[simp] theorem eventReturn_running (s : State) :
    (eventReturn s).running = none := rfl
@[simp] theorem eventReturn_doneSignal (s : State) :
    (eventReturn s).doneSignal = true := rfl
@[simp] theorem eventReturn_current (s : State) :
    (eventReturn s).current = s.current := rfl
@[simp] theorem eventReturn_wire (s : State) :
    (eventReturn s).wire = s.wire := rfl
@[simp] theorem eventReturn_returns (s : State) :
    (eventReturn s).returns = s.returns := rfl
@[simp] theorem eventReturn_partner (s : State) :
    (eventReturn s).partner = s.partner := rfl
@[simp] theorem eventReturn_tag (s : State) :
    (eventReturn s).tag = s.tag := rfl
@[simp] theorem eventReturn_events (s : State) :
    (eventReturn s).events = s.events := rfl
@[simp] theorem eventReturn_drawn (s : State) :
    (eventReturn s).drawn = s.drawn := rfl

/-! ### startInterval -/

@[simp] theorem startInterval_cfg (s : State) :
    (startInterval s).cfg = s.cfg := rfl
@[simp] theorem startInterval_conn (s : State) :
    (startInterval s).conn = s.conn := rfl
@[simp] theorem startInterval_cfgValid (s : State) :
    (startInterval s).cfgValid = s.cfgValid := rfl
@[simp] theorem startInterval_cfgTx (s : State) :
    (startInterval s).cfgTx = s.cfgTx := rfl
@[simp] theorem startInterval_cfgRx (s : State) :
    (startInterval s).cfgRx = s.cfgRx := rfl
@[simp] theorem startInterval_baud (s : State) :
    (startInterval s).baud = s.baud := rfl
@[simp] theorem startInterval_lastUid (s : State) :
    (startInterval s).lastUid = s.lastUid := rfl
@[simp] theorem startInterval_lastUidWritten (s : State) :
    (startInterval s).lastUidWritten = s.lastUidWritten := rfl
@[simp] theorem startInterval_handlerValid (s : State) :
    (startInterval s).handlerValid = s.handlerValid := rfl
@[simp] theorem startInterval_handler (s : State) :
    (startInterval s).handler = s.handler := rfl
@[simp] theorem startInterval_busy (s : State) :
    (startInterval s).busy = s.busy := rfl
@[simp] theorem startInterval_pollState (s : State) :
    (startInterval s).pollState = s.pollState := rfl
@[simp] theorem startInterval_pollTimer (s : State) :
    (startInterval s).pollTimer = s.cfg.pollIntervalMs := rfl
@[simp] theorem startInterval_linkLock (s : State) :
    (startInterval s).linkLock = s.linkLock := rfl
@[simp] theorem startInterval_txBuf (s : State) :
    (startInterval s).txBuf = s.txBuf := rfl
@[simp] theorem startInterval_rxFifo (s : State) :
    (startInterval s).rxFifo = s.rxFifo := rfl
@[simp] theorem startInterval_rxCap (s : State) :
    (startInterval s).rxCap = s.rxCap := rfl
@[simp] theorem startInterval_settleTimer (s : State) :
    (startInterval s).settleTimer = s.settleTimer := rfl
@[simp] theorem startInterval_hostTasks (s : State) :
    (startInterval s).hostTasks = s.hostTasks := rfl
@[simp] theorem startInterval_handlerTask (s : State) :
    (startInterval s).handlerTask = s.handlerTask := rfl
@[simp] theorem startInterval_pollTask (s : State) :
    (startInterval s).pollTask = s.pollTask := rfl
@[simp] theorem startInterval_running (s : State) :
    (startInterval s).running = s.running := rfl
@[simp] theorem startInterval_doneSignal (s : State) :
    (startInterval s).doneSignal = s.doneSignal := rfl
@[simp] theorem startInterval_current (s : State) :
    (startInterval s).current = s.current := rfl
@[simp] theorem startInterval_wire (s : State) :
    (startInterval s).wire = s.wire := rfl
@[simp] theorem startInterval_returns (s : State) :
    (startInterval s).returns = s.returns := rfl
@[simp] theorem startInterval_partner (s : State) :
    (startInterval s).partner = s.partner := rfl
@[simp] theorem startInterval_tag (s : State) :
    (startInterval s).tag = s.tag := rfl
@[simp] theorem startInterval_events (s : State) :
    (startInterval s).events = s.events := rfl
@[simp] theorem startInterval_drawn (s : State) :
    (startInterval s).drawn = s.drawn := rfl

/-! ### fillTxBuf -/

@[simp] theorem fillTxBuf_cfg (s : State) :
    (fillTxBuf s).cfg = s.cfg := rfl
@[simp] theorem fillTxBuf_conn (s : State) :
    (fillTxBuf s).conn = s.conn := rfl
@[simp] theorem fillTxBuf_cfgValid (s : State) :
    (fillTxBuf s).cfgValid = s.cfgValid := rfl
@[simp] theorem fillTxBuf_cfgTx (s : State) :
    (fillTxBuf s).cfgTx = s.cfgTx := rfl
@[simp] theorem fillTxBuf_cfgRx (s : State) :
    (fillTxBuf s).cfgRx = s.cfgRx := rfl
@[simp] theorem fillTxBuf_baud (s : State) :
    (fillTxBuf s).baud = s.baud := rfl
@[simp] theorem fillTxBuf_lastUid (s : State) :
    (fillTxBuf s).lastUid = s.lastUid := rfl
@[simp] theorem fillTxBuf_lastUidWritten (s : State) :
    (fillTxBuf s).lastUidWritten = s.lastUidWritten := rfl
@[simp] theorem fillTxBuf_handlerValid (s : State) :
    (fillTxBuf s).handlerValid = s.handlerValid := rfl
@[simp] theorem fillTxBuf_handler (s : State) :
    (fillTxBuf s).handler = s.handler := rfl
@[simp] theorem fillTxBuf_busy (s : State) :
    (fillTxBuf s).busy = s.busy := rfl
@[simp] theorem fillTxBuf_pollState (s : State) :
    (fillTxBuf s).pollState = s.pollState := rfl
@[simp] theorem fillTxBuf_pollTimer (s : State) :
    (fillTxBuf s).pollTimer = s.pollTimer := rfl
@[simp] theorem fillTxBuf_linkLock (s : State) :
    (fillTxBuf s).linkLock = s.linkLock := rfl
@[simp] theorem fillTxBuf_txBuf (s : State) :
    (fillTxBuf s).txBuf = fillChecksum s.txBuf := rfl
@[simp] theorem fillTxBuf_rxFifo (s : State) :
    (fillTxBuf s).rxFifo = s.rxFifo := rfl
@[simp] theorem fillTxBuf_rxCap (s : State) :
    (fillTxBuf s).rxCap = s.rxCap := rfl
@[simp] theorem fillTxBuf_settleTimer (s : State) :
    (fillTxBuf s).settleTimer = s.settleTimer := rfl
@[simp] theorem fillTxBuf_hostTasks (s : State) :
    (fillTxBuf s).hostTasks = s.hostTasks := rfl
@[simp] theorem fillTxBuf_handlerTask (s : State) :
    (fillTxBuf s).handlerTask = s.handlerTask := rfl
@[simp] theorem fillTxBuf_pollTask (s : State) :
    (fillTxBuf s).pollTask = s.pollTask := rfl
@[simp] theorem fillTxBuf_running (s : State) :
    (fillTxBuf s).running = s.running := rfl
@[simp] theorem fillTxBuf_doneSignal (s : State) :
    (fillTxBuf s).doneSignal = s.doneSignal := rfl
@[simp] theorem fillTxBuf_current (s : State) :
    (fillTxBuf s).current = s.current := rfl
@[simp] theorem fillTxBuf_wire (s : State) :
    (fillTxBuf s).wire = s.wire := rfl
@[simp] theorem fillTxBuf_returns (s : State) :
    (fillTxBuf s).returns = s.returns := rfl
@[simp] theorem fillTxBuf_partner (s : State) :
    (fillTxBuf s).partner = s.partner := rfl
@[simp] theorem fillTxBuf_tag (s : State) :
    (fillTxBuf s).tag = s.tag := rfl
@[simp] theorem fillTxBuf_events (s : State) :
    (fillTxBuf s).events = s.events := rfl
@[simp] theorem fillTxBuf_drawn (s : State) :
    (fillTxBuf s).drawn = s.drawn := rfl

/-! ### buildUidQuery -/

@[simp] theorem buildUidQuery_cfg (s : State) :
    (buildUidQuery s).cfg = s.cfg := rfl
@[simp] theorem buildUidQuery_conn (s : State) :
    (buildUidQuery s).conn = s.conn := rfl
@[simp] theorem buildUidQuery_cfgValid (s : State) :
    (buildUidQuery s).cfgValid = s.cfgValid := rfl
@[simp] theorem buildUidQuery_cfgTx (s : State) :
    (buildUidQuery s).cfgTx = s.cfgTx := rfl
@[simp] theorem buildUidQuery_cfgRx (s : State) :
    (buildUidQuery s).cfgRx = s.cfgRx := rfl
@[simp] theorem buildUidQuery_baud (s : State) :
    (buildUidQuery s).baud = s.baud := rfl
@[simp] theorem buildUidQuery_lastUid (s : State) :
    (buildUidQuery s).lastUid = s.lastUid := rfl
@[simp] theorem buildUidQuery_lastUidWritten (s : State) :
    (buildUidQuery s).lastUidWritten = s.lastUidWritten := rfl
@[simp] theorem buildUidQuery_handlerValid (s : State) :
    (buildUidQuery s).handlerValid = s.handlerValid := rfl
@[simp] theorem buildUidQuery_handler (s : State) :
    (buildUidQuery s).handler = s.handler := rfl
@[simp] theorem buildUidQuery_busy (s : State) :
    (buildUidQuery s).busy = s.busy := rfl
@[simp] theorem buildUidQuery_pollState (s : State) :
    (buildUidQuery s).pollState = s.pollState := rfl
@[simp] theorem buildUidQuery_pollTimer (s : State) :
    (buildUidQuery s).pollTimer = s.pollTimer := rfl
@[simp] theorem buildUidQuery_linkLock (s : State) :
    (buildUidQuery s).linkLock = s.linkLock := rfl
@[simp] theorem buildUidQuery_rxFifo (s : State) :
    (buildUidQuery s).rxFifo = s.rxFifo := rfl
@[simp] theorem buildUidQuery_rxCap (s : State) :
    (buildUidQuery s).rxCap = s.rxCap := rfl
@[simp] theorem buildUidQuery_settleTimer (s : State) :
    (buildUidQuery s).settleTimer = s.settleTimer := rfl
@[simp] theorem buildUidQuery_hostTasks (s : State) :
    (buildUidQuery s).hostTasks = s.hostTasks := rfl
@[simp] theorem buildUidQuery_handlerTask (s : State) :
    (buildUidQuery s).handlerTask = s.handlerTask := rfl
@[simp] theorem buildUidQuery_pollTask (s : State) :
    (buildUidQuery s).pollTask = s.pollTask := rfl
@[simp] theorem buildUidQuery_running (s : State) :
    (buildUidQuery s).running = s.running := rfl
@[simp] theorem buildUidQuery_doneSignal (s : State) :
    (buildUidQuery s).doneSignal = s.doneSignal := rfl
@[simp] theorem buildUidQuery_current (s : State) :
    (buildUidQuery s).current = s.current := rfl
@[simp] theorem buildUidQuery_wire (s : State) :
    (buildUidQuery s).wire = s.wire := rfl
@[simp] theorem buildUidQuery_returns (s : State) :
    (buildUidQuery s).returns = s.returns := rfl
@[simp] theorem buildUidQuery_partner (s : State) :
    (buildUidQuery s).partner = s.partner := rfl
@[simp] theorem buildUidQuery_tag (s : State) :
    (buildUidQuery s).tag = s.tag := rfl
@[simp] theorem buildUidQuery_events (s : State) :
    (buildUidQuery s).events = s.events := rfl
@[simp] theorem buildUidQuery_drawn (s : State) :
    (buildUidQuery s).drawn = s.drawn := rfl

/-! ### buildBlockRead -/

@[simp] theorem buildBlockRead_cfg (b : Byte) (s : State) :
    (buildBlockRead b s).cfg = s.cfg := rfl
@[simp] theorem buildBlockRead_conn (b : Byte) (s : State) :
    (buildBlockRead b s).conn = s.conn := rfl
@[simp] theorem buildBlockRead_cfgValid (b : Byte) (s : State) :
    (buildBlockRead b s).cfgValid = s.cfgValid := rfl
@[simp] theorem buildBlockRead_cfgTx (b : Byte) (s : State) :
    (buildBlockRead b s).cfgTx = s.cfgTx := rfl
@[simp] theorem buildBlockRead_cfgRx (b : Byte) (s : State) :
    (buildBlockRead b s).cfgRx = s.cfgRx := rfl
@[simp] theorem buildBlockRead_baud (b : Byte) (s : State) :
    (buildBlockRead b s).baud = s.baud := rfl
@[simp] theorem buildBlockRead_lastUid (b : Byte) (s : State) :
    (buildBlockRead b s).lastUid = s.lastUid := rfl
@[simp] theorem buildBlockRead_lastUidWritten (b : Byte) (s : State) :
    (buildBlockRead b s).lastUidWritten = s.lastUidWritten := rfl
@[simp] theorem buildBlockRead_handlerValid (b : Byte) (s : State) :
    (buildBlockRead b s).handlerValid = s.handlerValid := rfl
@[simp] theorem buildBlockRead_handler (b : Byte) (s : State) :
    (buildBlockRead b s).handler = s.handler := rfl
@[simp] theorem buildBlockRead_busy (b : Byte) (s : State) :
    (buildBlockRead b s).busy = s.busy := rfl
@[simp] theorem buildBlockRead_pollState (b : Byte) (s : State) :
    (buildBlockRead b s).pollState = s.pollState := rfl
@[simp] theorem buildBlockRead_pollTimer (b : Byte) (s : State) :
    (buildBlockRead b s).pollTimer = s.pollTimer := rfl
@[simp] theorem buildBlockRead_linkLock (b : Byte) (s : State) :
    (buildBlockRead b s).linkLock = s.linkLock := rfl
@[simp] theorem buildBlockRead_rxFifo (b : Byte) (s : State) :
    (buildBlockRead b s).rxFifo = s.rxFifo := rfl
@[simp] theorem buildBlockRead_rxCap (b : Byte) (s : State) :
    (buildBlockRead b s).rxCap = s.rxCap := rfl
@[simp] theorem buildBlockRead_settleTimer (b : Byte) (s : State) :
    (buildBlockRead b s).settleTimer = s.settleTimer := rfl
@[simp] theorem buildBlockRead_hostTasks (b : Byte) (s : State) :
    (buildBlockRead b s).hostTasks = s.hostTasks := rfl
@[simp] theorem buildBlockRead_handlerTask (b : Byte) (s : State) :
    (buildBlockRead b s).handlerTask = s.handlerTask := rfl
@[simp] theorem buildBlockRead_pollTask (b : Byte) (s : State) :
    (buildBlockRead b s).pollTask = s.pollTask := rfl
@[simp] theorem buildBlockRead_running (b : Byte) (s : State) :
    (buildBlockRead b s).running = s.running := rfl
@[simp] theorem buildBlockRead_doneSignal (b : Byte) (s : State) :
    (buildBlockRead b s).doneSignal = s.doneSignal := rfl
@[simp] theorem buildBlockRead_current (b : Byte) (s : State) :
    (buildBlockRead b s).current = s.current := rfl
@[simp] theorem buildBlockRead_wire (b : Byte) (s : State) :
    (buildBlockRead b s).wire = s.wire := rfl
@[simp] theorem buildBlockRead_returns (b : Byte) (s : State) :
    (buildBlockRead b s).returns = s.returns := rfl
@[simp] theorem buildBlockRead_partner (b : Byte) (s : State) :
    (buildBlockRead b s).partner = s.partner := rfl
@[simp] theorem buildBlockRead_tag (b : Byte) (s : State) :
    (buildBlockRead b s).tag = s.tag := rfl
@[simp] theorem buildBlockRead_events (b : Byte) (s : State) :
    (buildBlockRead b s).events = s.events := rfl
@[simp] theorem buildBlockRead_drawn (b : Byte) (s : State) :
    (buildBlockRead b s).drawn = s.drawn := rfl

/-! ### rxReset -/

@[simp] theorem rxReset_cfg (s : State) :
    (rxReset s).cfg = s.cfg := rfl
@[simp] theorem rxReset_conn (s : State) :
    (rxReset s).conn = s.conn := rfl
@[simp] theorem rxReset_cfgValid (s : State) :
    (rxReset s).cfgValid = s.cfgValid := rfl
@[simp] theorem rxReset_cfgTx (s : State) :
    (rxReset s).cfgTx = s.cfgTx := rfl
@[simp] theorem rxReset_cfgRx (s : State) :
    (rxReset s).cfgRx = s.cfgRx := rfl
@[simp] theorem rxReset_baud (s : State) :
    (rxReset s).baud = s.baud := rfl
@[simp] theorem rxReset_lastUid (s : State) :
    (rxReset s).lastUid = s.lastUid := rfl
@[simp] theorem rxReset_lastUidWritten (s : State) :
    (rxReset s).lastUidWritten = s.lastUidWritten := rfl
@[simp] theorem rxReset_handlerValid (s : State) :
    (rxReset s).handlerValid = s.handlerValid := rfl
@[simp] theorem rxReset_handler (s : State) :
    (rxReset s).handler = s.handler := rfl
@[simp] theorem rxReset_busy (s : State) :
    (rxReset s).busy = s.busy := rfl
@[simp] theorem rxReset_pollState (s : State) :
    (rxReset s).pollState = s.pollState := rfl
@[simp] theorem rxReset_pollTimer (s : State) :
    (rxReset s).pollTimer = s.pollTimer := rfl
@[simp] theorem rxReset_linkLock (s : State) :
    (rxReset s).linkLock = s.linkLock := rfl
@[simp] theorem rxReset_txBuf (s : State) :
    (rxReset s).txBuf = s.txBuf := rfl
@[simp] theorem rxReset_rxFifo (s : State) :
    (rxReset s).rxFifo = [] := rfl
@[simp] theorem rxReset_rxCap (s : State) :
    (rxReset s).rxCap = s.cfg.rxCapacity := rfl
@[simp] theorem rxReset_settleTimer (s : State) :
    (rxReset s).settleTimer = s.settleTimer := rfl
@[simp] theorem rxReset_hostTasks (s : State) :
    (rxReset s).hostTasks = s.hostTasks := rfl
@[simp] theorem rxReset_handlerTask (s : State) :
    (rxReset s).handlerTask = s.handlerTask := rfl
@[simp] theorem rxReset_pollTask (s : State) :
    (rxReset s).pollTask = s.pollTask := rfl
@[simp] theorem rxReset_running (s : State) :
    (rxReset s).running = s.running := rfl
@[simp] theorem rxReset_doneSignal (s : State) :
    (rxReset s).doneSignal = s.doneSignal := rfl
@[simp] theorem rxReset_current (s : State) :
    (rxReset s).current = s.current := rfl
@[simp] theorem rxReset_wire (s : State) :
    (rxReset s).wire = s.wire := rfl
@[simp] theorem rxReset_returns (s : State) :
    (rxReset s).returns = s.returns := rfl
@[simp] theorem rxReset_partner (s : State) :
    (rxReset s).partner = s.partner := rfl
@[simp] theorem rxReset_tag (s : State) :
    (rxReset s).tag = s.tag := rfl
@[simp] theorem rxReset_events (s : State) :
    (rxReset s).events = s.events := rfl
@[simp] theorem rxReset_drawn (s : State) :
    (rxReset s).drawn = s.drawn := rfl

/-! ### configure -/

@[simp] theorem configure_cfg (tx rx : PinId) (r : BaudRate) (s : State) :
    (configure tx rx r s).cfg = s.cfg := rfl
@[simp] theorem configure_conn (tx rx : PinId) (r : BaudRate) (s : State) :
    (configure tx rx r s).conn = true := rfl
@[simp] theorem configure_cfgValid (tx rx : PinId) (r : BaudRate) (s : State) :
    (configure tx rx r s).cfgValid = true := rfl
@[simp] theorem configure_cfgTx (tx rx : PinId) (r : BaudRate) (s : State) :
    (configure tx rx r s).cfgTx = tx := rfl
@[simp] theorem configure_cfgRx (tx rx : PinId) (r : BaudRate) (s : State) :
    (configure tx rx r s).cfgRx = rx := rfl
@[simp] theorem configure_baud (tx rx : PinId) (r : BaudRate) (s : State) :
    (configure tx rx r s).baud = s.baud := rfl
@[simp] theorem configure_lastUid (tx rx : PinId) (r : BaudRate) (s : State) :
    (configure tx rx r s).lastUid = s.lastUid := rfl
@[simp] theorem configure_lastUidWritten (tx rx : PinId) (r : BaudRate) (s : State) :
    (configure tx rx r s).lastUidWritten = s.lastUidWritten := rfl
@[simp] theorem configure_handlerValid (tx rx : PinId) (r : BaudRate) (s : State) :
    (configure tx rx r s).handlerValid = s.handlerValid := rfl
@[simp] theorem configure_handler (tx rx : PinId) (r : BaudRate) (s : State) :
    (configure tx rx r s).handler = s.handler := rfl
@[simp] theorem configure_busy (tx rx : PinId) (r : BaudRate) (s : State) :
    (configure tx rx r s).busy = s.busy := rfl
@[simp] theorem configure_pollState (tx rx : PinId) (r : BaudRate) (s : State) :
    (configure tx rx r s).pollState = s.pollState := rfl
@[simp] theorem configure_pollTimer (tx rx : PinId) (r : BaudRate) (s : State) :
    (configure tx rx r s).pollTimer = s.pollTimer := rfl
@[simp] theorem configure_linkLock (tx rx : PinId) (r : BaudRate) (s : State) :
    (configure tx rx r s).linkLock = s.linkLock := rfl
@[simp] theorem configure_txBuf (tx rx : PinId) (r : BaudRate) (s : State) :
    (configure tx rx r s).txBuf = s.txBuf := rfl
@[simp] theorem configure_rxFifo (tx rx : PinId) (r : BaudRate) (s : State) :
    (configure tx rx r s).rxFifo = s.rxFifo := rfl
@[simp] theorem configure_rxCap (tx rx : PinId) (r : BaudRate) (s : State) :
    (configure tx rx r s).rxCap = s.rxCap := rfl
@[simp] theorem configure_settleTimer (tx rx : PinId) (r : BaudRate) (s : State) :
    (configure tx rx r s).settleTimer = s.settleTimer := rfl
@[simp] theorem configure_hostTasks (tx rx : PinId) (r : BaudRate) (s : State) :
    (configure tx rx r s).hostTasks = s.hostTasks := rfl
@[simp] theorem configure_handlerTask (tx rx : PinId) (r : BaudRate) (s : State) :
    (configure tx rx r s).handlerTask = s.handlerTask := rfl
@[simp] theorem configure_pollTask (tx rx : PinId) (r : BaudRate) (s : State) :
    (configure tx rx r s).pollTask = s.pollTask := rfl
@[simp] theorem configure_running (tx rx : PinId) (r : BaudRate) (s : State) :
    (configure tx rx r s).running = s.running := rfl
@[simp] theorem configure_doneSignal (tx rx : PinId) (r : BaudRate) (s : State) :
    (configure tx rx r s).doneSignal = s.doneSignal := rfl
@[simp] theorem configure_current (tx rx : PinId) (r : BaudRate) (s : State) :
    (configure tx rx r s).current = s.current := rfl
@[simp] theorem configure_wire (tx rx : PinId) (r : BaudRate) (s : State) :
    (configure tx rx r s).wire = s.wire := rfl
@[simp] theorem configure_returns (tx rx : PinId) (r : BaudRate) (s : State) :
    (configure tx rx r s).returns = s.returns := rfl
@[simp] theorem configure_partner (tx rx : PinId) (r : BaudRate) (s : State) :
    (configure tx rx r s).partner = s.partner := rfl
@[simp] theorem configure_tag (tx rx : PinId) (r : BaudRate) (s : State) :
    (configure tx rx r s).tag = s.tag := rfl
@[simp] theorem configure_events (tx rx : PinId) (r : BaudRate) (s : State) :
    (configure tx rx r s).events = s.events := rfl
@[simp] theorem configure_drawn (tx rx : PinId) (r : BaudRate) (s : State) :
    (configure tx rx r s).drawn = s.drawn := rfl

/-! ### setTask -/

@[simp] theorem setTask_cfg (s : State) (a : Agent) (t : Option Task) :
    (setTask s a t).cfg = s.cfg := by cases a <;> cases t <;> rfl
@[simp] theorem setTask_conn (s : State) (a : Agent) (t : Option Task) :
    (setTask s a t).conn = s.conn := by cases a <;> cases t <;> rfl
@[simp] theorem setTask_cfgValid (s : State) (a : Agent) (t : Option Task) :
    (setTask s a t).cfgValid = s.cfgValid := by cases a <;> cases t <;> rfl
@[simp] theorem setTask_cfgTx (s : State) (a : Agent) (t : Option Task) :
    (setTask s a t).cfgTx = s.cfgTx := by cases a <;> cases t <;> rfl
@[simp] theorem setTask_cfgRx (s : State) (a : Agent) (t : Option Task) :
    (setTask s a t).cfgRx = s.cfgRx := by cases a <;> cases t <;> rfl
@[simp] theorem setTask_baud (s : State) (a : Agent) (t : Option Task) :
    (setTask s a t).baud = s.baud := by cases a <;> cases t <;> rfl
@[simp] theorem setTask_lastUid (s : State) (a : Agent) (t : Option Task) :
    (setTask s a t).lastUid = s.lastUid := by cases a <;> cases t <;> rfl
@[simp] theorem setTask_lastUidWritten (s : State) (a : Agent) (t : Option Task) :
    (setTask s a t).lastUidWritten = s.lastUidWritten := by cases a <;> cases t <;> rfl
@[simp] theorem setTask_handlerValid (s : State) (a : Agent) (t : Option Task) :
    (setTask s a t).handlerValid = s.handlerValid := by cases a <;> cases t <;> rfl
@[simp] theorem setTask_handler (s : State) (a : Agent) (t : Option Task) :
    (setTask s a t).handler = s.handler := by cases a <;> cases t <;> rfl
@[simp] theorem setTask_busy (s : State) (a : Agent) (t : Option Task) :
    (setTask s a t).busy = s.busy := by cases a <;> cases t <;> rfl
@[simp] theorem setTask_pollState (s : State) (a : Agent) (t : Option Task) :
    (setTask s a t).pollState = s.pollState := by cases a <;> cases t <;> rfl
@[simp] theorem setTask_pollTimer (s : State) (a : Agent) (t : Option Task) :
    (setTask s a t).pollTimer = s.pollTimer := by cases a <;> cases t <;> rfl
@[simp] theorem setTask_linkLock (s : State) (a : Agent) (t : Option Task) :
    (setTask s a t).linkLock = s.linkLock := by cases a <;> cases t <;> rfl
@[simp] theorem setTask_txBuf (s : State) (a : Agent) (t : Option Task) :
    (setTask s a t).txBuf = s.txBuf := by cases a <;> cases t <;> rfl
@[simp] theorem setTask_rxFifo (s : State) (a : Agent) (t : Option Task) :
    (setTask s a t).rxFifo = s.rxFifo := by cases a <;> cases t <;> rfl
@[simp] theorem setTask_rxCap (s : State) (a : Agent) (t : Option Task) :
    (setTask s a t).rxCap = s.rxCap := by cases a <;> cases t <;> rfl
@[simp] theorem setTask_settleTimer (s : State) (a : Agent) (t : Option Task) :
    (setTask s a t).settleTimer = s.settleTimer := by cases a <;> cases t <;> rfl
@[simp] theorem setTask_running (s : State) (a : Agent) (t : Option Task) :
    (setTask s a t).running = s.running := by cases a <;> cases t <;> rfl
@[simp] theorem setTask_doneSignal (s : State) (a : Agent) (t : Option Task) :
    (setTask s a t).doneSignal = s.doneSignal := by cases a <;> cases t <;> rfl
@[simp] theorem setTask_current (s : State) (a : Agent) (t : Option Task) :
    (setTask s a t).current = s.current := by cases a <;> cases t <;> rfl
@[simp] theorem setTask_wire (s : State) (a : Agent) (t : Option Task) :
    (setTask s a t).wire = s.wire := by cases a <;> cases t <;> rfl
@[simp] theorem setTask_returns (s : State) (a : Agent) (t : Option Task) :
    (setTask s a t).returns = s.returns := by cases a <;> cases t <;> rfl
@[simp] theorem setTask_partner (s : State) (a : Agent) (t : Option Task) :
    (setTask s a t).partner = s.partner := by cases a <;> cases t <;> rfl
@[simp] theorem setTask_tag (s : State) (a : Agent) (t : Option Task) :
    (setTask s a t).tag = s.tag := by cases a <;> cases t <;> rfl
@[simp] theorem setTask_events (s : State) (a : Agent) (t : Option Task) :
    (setTask s a t).events = s.events := by cases a <;> cases t <;> rfl
@[simp] theorem setTask_drawn (s : State) (a : Agent) (t : Option Task) :
    (setTask s a t).drawn = s.drawn := by cases a <;> cases t <;> rfl

/-! ### awaitResponse -/

@[simp] theorem awaitResponse_cfg (op : Instr) (loc : Locals) (s : State) :
    (awaitResponse op loc s).cfg = s.cfg := by simp [awaitResponse]
@[simp] theorem awaitResponse_conn (op : Instr) (loc : Locals) (s : State) :
    (awaitResponse op loc s).conn = s.conn := by simp [awaitResponse]
@[simp] theorem awaitResponse_cfgValid (op : Instr) (loc : Locals) (s : State) :
    (awaitResponse op loc s).cfgValid = s.cfgValid := by simp [awaitResponse]
@[simp] theorem awaitResponse_cfgTx (op : Instr) (loc : Locals) (s : State) :
    (awaitResponse op loc s).cfgTx = s.cfgTx := by simp [awaitResponse]
@[simp] theorem awaitResponse_cfgRx (op : Instr) (loc : Locals) (s : State) :
    (awaitResponse op loc s).cfgRx = s.cfgRx := by simp [awaitResponse]
@[simp] theorem awaitResponse_baud (op : Instr) (loc : Locals) (s : State) :
    (awaitResponse op loc s).baud = s.baud := by simp [awaitResponse]
@[simp] theorem awaitResponse_lastUid (op : Instr) (loc : Locals) (s : State) :
    (awaitResponse op loc s).lastUid = s.lastUid := by simp [awaitResponse]
@[simp] theorem awaitResponse_lastUidWritten (op : Instr) (loc : Locals) (s : State) :
    (awaitResponse op loc s).lastUidWritten = s.lastUidWritten := by simp [awaitResponse]
@[simp] theorem awaitResponse_handlerValid (op : Instr) (loc : Locals) (s : State) :
    (awaitResponse op loc s).handlerValid = s.handlerValid := by simp [awaitResponse]
@[simp] theorem awaitResponse_handler (op : Instr) (loc : Locals) (s : State) :
    (awaitResponse op loc s).handler = s.handler := by simp [awaitResponse]
@[simp] theorem awaitResponse_busy (op : Instr) (loc : Locals) (s : State) :
    (awaitResponse op loc s).busy = s.busy := by simp [awaitResponse]
@[simp] theorem awaitResponse_pollState (op : Instr) (loc : Locals) (s : State) :
    (awaitResponse op loc s).pollState = s.pollState := by simp [awaitResponse]
@[simp] theorem awaitResponse_pollTimer (op : Instr) (loc : Locals) (s : State) :
    (awaitResponse op loc s).pollTimer = s.pollTimer := by simp [awaitResponse]
@[simp] theorem awaitResponse_linkLock (op : Instr) (loc : Locals) (s : State) :
    (awaitResponse op loc s).linkLock = s.linkLock := by simp [awaitResponse]
@[simp] theorem awaitResponse_txBuf (op : Instr) (loc : Locals) (s : State) :
    (awaitResponse op loc s).txBuf = s.txBuf := by simp [awaitResponse]
@[simp] theorem awaitResponse_rxFifo (op : Instr) (loc : Locals) (s : State) :
    (awaitResponse op loc s).rxFifo = s.rxFifo := by simp [awaitResponse]
@[simp] theorem awaitResponse_rxCap (op : Instr) (loc : Locals) (s : State) :
    (awaitResponse op loc s).rxCap = s.rxCap := by simp [awaitResponse]
@[simp] theorem awaitResponse_settleTimer (op : Instr) (loc : Locals) (s : State) :
    (awaitResponse op loc s).settleTimer = s.cfg.settleMs := by simp [awaitResponse]
@[simp] theorem awaitResponse_running (op : Instr) (loc : Locals) (s : State) :
    (awaitResponse op loc s).running = s.running := by simp [awaitResponse]
@[simp] theorem awaitResponse_doneSignal (op : Instr) (loc : Locals) (s : State) :
    (awaitResponse op loc s).doneSignal = s.doneSignal := by simp [awaitResponse]
@[simp] theorem awaitResponse_current (op : Instr) (loc : Locals) (s : State) :
    (awaitResponse op loc s).current = s.current := by simp [awaitResponse]
@[simp] theorem awaitResponse_wire (op : Instr) (loc : Locals) (s : State) :
    (awaitResponse op loc s).wire = s.wire := by simp [awaitResponse]
@[simp] theorem awaitResponse_returns (op : Instr) (loc : Locals) (s : State) :
    (awaitResponse op loc s).returns = s.returns := by simp [awaitResponse]
@[simp] theorem awaitResponse_partner (op : Instr) (loc : Locals) (s : State) :
    (awaitResponse op loc s).partner = s.partner := by simp [awaitResponse]
@[simp] theorem awaitResponse_tag (op : Instr) (loc : Locals) (s : State) :
    (awaitResponse op loc s).tag = s.tag := by simp [awaitResponse]
@[simp] theorem awaitResponse_events (op : Instr) (loc : Locals) (s : State) :
    (awaitResponse op loc s).events = s.events := by simp [awaitResponse]
@[simp] theorem awaitResponse_drawn (op : Instr) (loc : Locals) (s : State) :
    (awaitResponse op loc s).drawn = s.drawn := by simp [awaitResponse]

/-! ### endOperation -/

@[simp] theorem endOperation_cfg (r : Result) (s : State) :
    (endOperation r s).cfg = s.cfg := by simp [endOperation]
@[simp] theorem endOperation_conn (r : Result) (s : State) :
    (endOperation r s).conn = s.conn := by simp [endOperation]
@[simp] theorem endOperation_cfgValid (r : Result) (s : State) :
    (endOperation r s).cfgValid = s.cfgValid := by simp [endOperation]
@[simp] theorem endOperation_cfgTx (r : Result) (s : State) :
    (endOperation r s).cfgTx = s.cfgTx := by simp [endOperation]
@[simp] theorem endOperation_cfgRx (r : Result) (s : State) :
    (endOperation r s).cfgRx = s.cfgRx := by simp [endOperation]
@[simp] theorem endOperation_baud (r : Result) (s : State) :
    (endOperation r s).baud = s.baud := by simp [endOperation]
@[simp] theorem endOperation_lastUid (r : Result) (s : State) :
    (endOperation r s).lastUid = s.lastUid := by simp [endOperation]
@[simp] theorem endOperation_lastUidWritten (r : Result) (s : State) :
    (endOperation r s).lastUidWritten = s.lastUidWritten := by simp [endOperation]
@[simp] theorem endOperation_handlerValid (r : Result) (s : State) :
    (endOperation r s).handlerValid = s.handlerValid := by simp [endOperation]
@[simp] theorem endOperation_handler (r : Result) (s : State) :
    (endOperation r s).handler = s.handler := by simp [endOperation]
@[simp] theorem endOperation_busy (r : Result) (s : State) :
    (endOperation r s).busy = s.busy := by simp [endOperation]
@[simp] theorem endOperation_pollState (r : Result) (s : State) :
    (endOperation r s).pollState = s.pollState := by simp [endOperation]
@[simp] theorem endOperation_pollTimer (r : Result) (s : State) :
    (endOperation r s).pollTimer = s.pollTimer := by simp [endOperation]
@[simp] theorem endOperation_linkLock (r : Result) (s : State) :
    (endOperation r s).linkLock = .free := by simp [endOperation]
@[simp] theorem endOperation_txBuf (r : Result) (s : State) :
    (endOperation r s).txBuf = s.txBuf := by simp [endOperation]
@[simp] theorem endOperation_rxFifo (r : Result) (s : State) :
    (endOperation r s).rxFifo = s.rxFifo := by simp [endOperation]
@[simp] theorem endOperation_rxCap (r : Result) (s : State) :
    (endOperation r s).rxCap = s.rxCap := by simp [endOperation]
@[simp] theorem endOperation_settleTimer (r : Result) (s : State) :
    (endOperation r s).settleTimer = s.settleTimer := by simp [endOperation]
@[simp] theorem endOperation_running (r : Result) (s : State) :
    (endOperation r s).running = s.running := by simp [endOperation]
@[simp] theorem endOperation_doneSignal (r : Result) (s : State) :
    (endOperation r s).doneSignal = s.doneSignal := by simp [endOperation]
@[simp] theorem endOperation_current (r : Result) (s : State) :
    (endOperation r s).current = s.current := by simp [endOperation]
@[simp] theorem endOperation_wire (r : Result) (s : State) :
    (endOperation r s).wire = s.wire := by simp [endOperation]
@[simp] theorem endOperation_returns (r : Result) (s : State) :
    (endOperation r s).returns = (s.current, r) :: s.returns := by simp [endOperation]
@[simp] theorem endOperation_partner (r : Result) (s : State) :
    (endOperation r s).partner = s.partner := by simp [endOperation]
@[simp] theorem endOperation_tag (r : Result) (s : State) :
    (endOperation r s).tag = s.tag := by simp [endOperation]
@[simp] theorem endOperation_events (r : Result) (s : State) :
    (endOperation r s).events = s.events := by simp [endOperation]
@[simp] theorem endOperation_drawn (r : Result) (s : State) :
    (endOperation r s).drawn = s.drawn := by simp [endOperation]

end Sys2Proof.Machine
end

