-- ==== Sys2Proof/Laws/Codec.lean ====
section
/-!
SUPPORT. The checksum, the frame builders, the receive buffer and the chunks of a stream: one lemma for each
operation that says what it computes.
-/

namespace Sys2Proof

/-- A test whose first branch cannot give the answer has failed. -/
theorem ite_elim {α : Type} {c : Prop} [Decidable c] {a b v : α} (h : (if c then a else b) = v) (ha : a ≠ v) :
    b = v := by
  by_cases hc : c
  · rw [if_pos hc] at h; exact absurd h ha
  · rwa [if_neg hc] at h

/-- HANDLER_DONE is read from its own op code alone (30_encoding.md R100). -/
theorem decodeHost_handlerDone {op : Byte} {args : List HostVal} (h : decodeHost op args = .ok .handlerDone) :
    op = 0x0C#8 := by
  unfold decodeHost at h
  iterate 11 replace h := ite_elim h (by split <;> simp)
  by_contra hne
  rw [if_neg hne] at h
  cases h

end Sys2Proof

namespace Sys2Proof.Machine

/-! ### Checksum -/

@[simp] theorem not8_not8 (v : Byte) : not8 (not8 v) = v := by simp [not8]

theorem foldl_xor (f : Bytes) (a : Byte) : f.foldl (fun acc b => acc ^^^ b) a = a ^^^ xorFold f := by
  induction f generalizing a with
  | nil => simp [xorFold]
  | cons b rest ih =>
    show rest.foldl (fun acc b => acc ^^^ b) (a ^^^ b) = a ^^^ rest.foldl (fun acc b => acc ^^^ b) (0#8 ^^^ b)
    rw [ih, ih (0#8 ^^^ b)]; simp [BitVec.xor_assoc]

@[simp] theorem xorFold_nil : xorFold [] = 0#8 := rfl

@[simp] theorem xorFold_cons (b : Byte) (f : Bytes) : xorFold (b :: f) = b ^^^ xorFold f := by
  rw [xorFold, List.foldl_cons, foldl_xor]; simp

@[simp] theorem xorFold_append (f g : Bytes) : xorFold (f ++ g) = xorFold f ^^^ xorFold g := by
  induction f with
  | nil => simp
  | cons b rest ih => simp [ih, BitVec.xor_assoc]

/-- The checksum ignores the byte in its own slot (40_checksum.md R120). -/
@[simp] theorem computeChecksum_append (f : Bytes) (c : Byte) : computeChecksum (f ++ [c]) = not8 (xorFold f) := by
  simp [computeChecksum]

/-- FILL_CHECKSUM replaces the last byte (40_checksum.md R121). -/
@[simp] theorem fillChecksum_append (f : Bytes) (c : Byte) : fillChecksum (f ++ [c]) = f ++ [not8 (xorFold f)] := by
  cases f with
  | nil => simp [fillChecksum, computeChecksum]
  | cons b rest =>
    have h1 : computeChecksum (b :: (rest ++ [c])) = not8 (xorFold (b :: rest)) :=
      computeChecksum_append (b :: rest) c
    have h2 : (b :: (rest ++ [c])).dropLast = b :: rest := List.dropLast_concat (l₁ := b :: rest)
    simp [fillChecksum, h1, h2]

/-- VERIFY_CHECKSUM compares the last byte with the checksum of the others (40_checksum.md R122). -/
@[simp] theorem verifyChecksum_append (f : Bytes) (c : Byte) :
    verifyChecksum (f ++ [c]) = decide (c = not8 (xorFold f)) := by
  simp [verifyChecksum, beq_eq_decide]

/-! ### Builders -/

/-- BUILD_UID_QUERY builds the frame of 30_encoding.md R81. -/
@[simp] theorem buildUidQuery_txBuf (s : State) : (buildUidQuery s).txBuf = frameBytes .uidQuery := rfl

/-- NOT of an XOR. -/
theorem not8_xor (a b : Byte) : not8 (a ^^^ b) = not8 a ^^^ b := by
  unfold not8; rw [BitVec.xor_assoc, BitVec.xor_comm b, BitVec.xor_assoc]

/-- The fold over a BLOCK_READ's bytes before the checksum (30_encoding.md R82). -/
theorem xorFold_blockRead (b : Byte) :
    not8 (xorFold [0x01#8, 0x08#8, 0xA3#8, 0x20#8, b, 0x01#8, 0x00#8]) = 0x74#8 ^^^ b := by
  simp only [xorFold_cons, xorFold_nil]
  rw [BitVec.xor_comm b]
  simp only [← BitVec.xor_assoc, BitVec.reduceXOr, not8_xor]
  rfl

/-- BUILD_BLOCK_READ builds the frame of 30_encoding.md R82. -/
@[simp] theorem buildBlockRead_txBuf (b : Byte) (s : State) :
    (buildBlockRead b s).txBuf = frameBytes (.blockRead b) := by
  have := fillChecksum_append [0x01#8, 0x08#8, 0xA3#8, 0x20#8, b, 0x01#8, 0x00#8] 0x00#8
  simp only [List.cons_append, List.nil_append] at this
  simp only [buildBlockRead, fillTxBuf, this, frameBytes, encode, xorFold_blockRead]

/-- The fold over a BLOCK_WRITE's bytes before the checksum (30_encoding.md R83). -/
theorem xorFold_blockWrite (b : Byte) (d : Bytes) :
    not8 (xorFold ([0x01#8, 0x17#8, 0xA4#8, 0x20#8, b, 0x01#8] ++ d)) = blockWriteChecksum b d := by
  simp only [List.cons_append, List.nil_append, xorFold_cons, blockWriteChecksum]
  rw [← BitVec.xor_assoc b, BitVec.xor_comm b]
  simp only [← BitVec.xor_assoc, BitVec.reduceXOr, not8_xor]
  rfl

/-- BUILD_BLOCK_WRITE builds the frame of 30_encoding.md R83, for 16 data bytes only (41_frame_codec.md R142). -/
theorem buildBlockWrite_eq (b : Byte) (d : Bytes) (s : State) :
    buildBlockWrite b d s =
      if d.length = 16 then .ok { s with txBuf := frameBytes (.blockWrite b d) } else .error .blockDataLength := by
  unfold buildBlockWrite fillTxBuf
  simp only [fillChecksum_append, xorFold_blockWrite, frameBytes, encode]

/-! ### The receive buffer -/

/-- A delivery appends what fits and drops the rest (10_state.md R33). -/
theorem deliver_eq (bytes : Bytes) (s : State) :
    deliver bytes s = { s with rxFifo := s.rxFifo ++ bytes.take (s.rxCap - s.rxFifo.length) } := by
  induction bytes generalizing s with
  | nil => simp [deliver]
  | cons b rest ih =>
    show deliver rest (receiveByte s b) = _
    rw [ih]
    unfold receiveByte
    split
    next h =>
      obtain ⟨n, hn⟩ : ∃ n, s.rxCap - s.rxFifo.length = n + 1 := ⟨s.rxCap - s.rxFifo.length - 1, by omega⟩
      have e : s.rxCap - (s.rxFifo ++ [b]).length = n := by simp; omega
      simp only [e, hn, List.take_succ_cons, List.append_assoc, List.cons_append, List.nil_append]
    next h =>
      have e : s.rxCap - s.rxFifo.length = 0 := by omega
      simp only [e, List.take_zero]

/-- READ_EXACTLY takes everything or nothing (42_transport.md R178). -/
theorem readExactly_eq (n : Nat) (s : State) :
    readExactly n s =
      if s.rxFifo.length = n then (some s.rxFifo, { s with rxFifo := [] }) else (none, s) := by
  unfold readExactly rxCount rxRead
  split
  next h => subst h; simp
  next h => rfl

/-! ### Chunks -/

/-- Every chunk is a whole block (20_memory.md R57). -/
@[simp] theorem chunk_length (stream : Bytes) (k : Nat) : (chunk stream k).length = 16 := by
  simp [chunk, pad16]

/-- A chunk of a stream always has the length BUILD_BLOCK_WRITE takes. -/
theorem buildBlockWrite_chunk (b : Byte) (stream : Bytes) (k : Nat) (s : State) :
    buildBlockWrite b (chunk stream k) s = .ok { s with txBuf := frameBytes (.blockWrite b (chunk stream k)) } := by
  simp [buildBlockWrite_eq]

end Sys2Proof.Machine
end

