-- ==== Sys2Proof/Laws/Memory.lean ====
section
/-!
SUPPORT. Sparse lists and SIMPARTNER's tag memory: reads after writes, and the canonical form every operation keeps.
-/

namespace Sys2Proof.Machine

variable {α : Type}

@[simp] theorem sparseFind_nil (k : Nat) : sparseFind ([] : List (Nat × α)) k = none := rfl

@[simp] theorem sparseFind_cons (c : Nat × α) (l : List (Nat × α)) (k : Nat) :
    sparseFind (c :: l) k = if c.1 = k then some c.2 else sparseFind l k := rfl

@[simp] theorem sparseFind_sparsePut_self (l : List (Nat × α)) (k : Nat) (v : α) :
    sparseFind (sparsePut l k v) k = some v := by
  induction l with
  | nil => simp [sparsePut]
  | cons c rest ih =>
    obtain ⟨j, w⟩ := c
    by_cases h1 : k < j
    · simp [sparsePut, h1]
    · by_cases h2 : k = j
      · simp [sparsePut, h2]
      · simp [sparsePut, h1, h2, ih]
        exact fun h => absurd h.symm h2

theorem sparseFind_sparsePut_other (l : List (Nat × α)) {k j : Nat} (v : α) (h : j ≠ k) :
    sparseFind (sparsePut l k v) j = sparseFind l j := by
  induction l with
  | nil => simp [sparsePut, h.symm]
  | cons c rest ih =>
    obtain ⟨i, w⟩ := c
    by_cases h1 : k < i
    · simp [sparsePut, h1, h.symm]
    · by_cases h2 : k = i
      · subst h2; simp [sparsePut, h.symm]
      · simp [sparsePut, h1, h2, ih]

@[simp] theorem sparseFind_sparseDel_self (l : List (Nat × α)) (k : Nat) :
    sparseFind (sparseDel l k) k = none := by
  induction l with
  | nil => rfl
  | cons c rest ih =>
    obtain ⟨j, w⟩ := c
    by_cases h : j = k <;> simp [sparseDel, h, ih]

theorem sparseFind_sparseDel_other (l : List (Nat × α)) {k j : Nat} (h : j ≠ k) :
    sparseFind (sparseDel l k) j = sparseFind l j := by
  induction l with
  | nil => rfl
  | cons c rest ih =>
    obtain ⟨i, w⟩ := c
    by_cases hi : i = k
    · subst hi; simp [sparseDel, h.symm, ih]
    · simp [sparseDel, hi, ih]

/-- Removing what is not listed changes nothing. -/
theorem sparseDel_of_sparseFind_none {l : List (Nat × α)} {k : Nat} (h : sparseFind l k = none) :
    sparseDel l k = l := by
  induction l with
  | nil => rfl
  | cons c rest ih =>
    obtain ⟨j, w⟩ := c
    by_cases hj : j = k
    · simp [hj] at h
    · simp [hj] at h; simp [sparseDel, hj, ih h]

theorem mem_sparseDel {l : List (Nat × α)} {k : Nat} {c : Nat × α} (h : c ∈ sparseDel l k) : c ∈ l := by
  induction l with
  | nil => simp [sparseDel] at h
  | cons d rest ih =>
    obtain ⟨j, w⟩ := d
    by_cases hj : j = k
    · simp [sparseDel, hj] at h; exact List.mem_cons_of_mem _ (ih h)
    · simp only [sparseDel, hj, if_false, List.mem_cons] at h
      rcases h with rfl | h
      · simp
      · exact List.mem_cons_of_mem _ (ih h)

theorem mem_sparsePut {l : List (Nat × α)} {k : Nat} {v : α} {c : Nat × α} (h : c ∈ sparsePut l k v) :
    c = (k, v) ∨ c ∈ l := by
  induction l with
  | nil => left; simpa [sparsePut] using h
  | cons d rest ih =>
    obtain ⟨j, w⟩ := d
    by_cases h1 : k < j
    · simpa [sparsePut, h1] using h
    · by_cases h2 : k = j
      · subst h2
        simp only [sparsePut, lt_irrefl, if_false, if_true, List.mem_cons] at h ⊢
        tauto
      · simp only [sparsePut, h1, h2, if_false, List.mem_cons] at h ⊢
        rcases h with rfl | h
        · simp
        · rcases ih h with h | h <;> simp [h]

theorem sparseSorted_sparseDel {l : List (Nat × α)} {k : Nat} (h : sparseSorted l = true) :
    sparseSorted (sparseDel l k) = true := by
  induction l with
  | nil => rfl
  | cons c rest ih =>
    obtain ⟨j, w⟩ := c
    simp only [sparseSorted, Bool.and_eq_true, List.all_eq_true, decide_eq_true_eq] at h
    by_cases hj : j = k
    · simpa [sparseDel, hj] using ih h.2
    · simp only [sparseDel, hj, if_false, sparseSorted, Bool.and_eq_true, List.all_eq_true, decide_eq_true_eq]
      exact ⟨fun c hc => h.1 c (mem_sparseDel hc), ih h.2⟩

theorem sparseSorted_sparsePut {l : List (Nat × α)} {k : Nat} {v : α} (h : sparseSorted l = true) :
    sparseSorted (sparsePut l k v) = true := by
  induction l with
  | nil => simp [sparsePut, sparseSorted]
  | cons c rest ih =>
    obtain ⟨j, w⟩ := c
    have hs := h
    simp only [sparseSorted, Bool.and_eq_true, List.all_eq_true, decide_eq_true_eq] at h
    by_cases h1 : k < j
    · simp only [sparsePut, h1, if_true]
      rw [sparseSorted, hs, Bool.and_true, List.all_eq_true]
      intro c hc
      rcases List.mem_cons.mp hc with rfl | hc
      · simpa using h1
      · have := h.1 c hc; simp; omega
    · by_cases h2 : k = j
      · subst h2
        simp only [sparsePut, lt_irrefl, if_false, if_true, sparseSorted, Bool.and_eq_true, List.all_eq_true,
          decide_eq_true_eq]
        exact h
      · simp only [sparsePut, h1, h2, if_false, sparseSorted, Bool.and_eq_true, List.all_eq_true,
          decide_eq_true_eq]
        refine ⟨fun c hc => ?_, ih h.2⟩
        rcases mem_sparsePut hc with rfl | hc
        · simp; omega
        · exact h.1 c hc

/-! ### The tag memory -/

@[simp] theorem readByte_nil (a : Nat) : readByte [] a = unlistedByte := rfl

@[simp] theorem readByte_writeByte_self (m : Memory) (a : Nat) (v : Byte) : readByte (writeByte m a v) a = v := by
  by_cases h : v = unlistedByte <;> simp [readByte, writeByte, h]

theorem readByte_writeByte_other (m : Memory) {a b : Nat} (v : Byte) (h : b ≠ a) :
    readByte (writeByte m a v) b = readByte m b := by
  by_cases hv : v = unlistedByte
  · simp [readByte, writeByte, hv, sparseFind_sparseDel_other _ h]
  · simp [readByte, writeByte, hv, sparseFind_sparsePut_other _ _ h]

@[simp] theorem memoryWf_nil : memoryWf [] = true := rfl

/-- A write inside the tag's address space keeps the canonical form. -/
theorem memoryWf_writeByte {m : Memory} {a : Nat} {v : Byte} (ha : a < tagBytes) (h : memoryWf m = true) :
    memoryWf (writeByte m a v) = true := by
  simp only [memoryWf, Bool.and_eq_true, List.all_eq_true, decide_eq_true_eq, bne_iff_ne, ne_eq] at h ⊢
  by_cases hv : v = unlistedByte
  · simp only [writeByte, hv, if_true]
    exact ⟨sparseSorted_sparseDel h.1, fun c hc => h.2 c (mem_sparseDel hc)⟩
  · simp only [writeByte, hv, if_false]
    refine ⟨sparseSorted_sparsePut h.1, fun c hc => ?_⟩
    rcases mem_sparsePut hc with rfl | hc
    · exact ⟨ha, hv⟩
    · exact h.2 c hc

theorem memoryWf_writeBytesFrom {m : Memory} {a : Nat} {d : Bytes} (ha : a + d.length ≤ tagBytes)
    (h : memoryWf m = true) : memoryWf (writeBytesFrom m a d) = true := by
  induction d generalizing m a with
  | nil => exact h
  | cons v rest ih =>
    simp only [List.length_cons] at ha
    exact ih (by omega) (memoryWf_writeByte (by omega) h)

/-- Every byte of every block lies in the tag's address space (20_memory.md R50). -/
theorem blockAddress_lt (b : Byte) {o : Nat} (ho : o < 16) : blockAddress b o < tagBytes := by
  have := b.isLt; unfold blockAddress tagBytes; omega

/-- A block write keeps the canonical form. -/
theorem memoryWf_writeBlock {m : Memory} {b : Byte} {d : Bytes} (h : memoryWf m = true) :
    memoryWf (writeBlock m b d) = true := by
  refine memoryWf_writeBytesFrom ?_ h
  have := b.isLt
  have : (d.take 16).length ≤ 16 := by simp
  unfold blockAddress tagBytes; omega

/-- A byte outside the stored range reads as before; one inside reads as the stored byte. -/
theorem readByte_writeBytesFrom (m : Memory) (a : Nat) (d : Bytes) (x : Nat) :
    readByte (writeBytesFrom m a d) x =
      if a ≤ x ∧ x < a + d.length then d.getD (x - a) 0#8 else readByte m x := by
  induction d generalizing m a with
  | nil => simp [writeBytesFrom]
  | cons v rest ih =>
    rw [writeBytesFrom, ih]
    by_cases hx : x = a
    · subst hx; simp
    · by_cases h1 : a + 1 ≤ x ∧ x < a + 1 + rest.length
      · have h2 : a ≤ x ∧ x < a + (v :: rest).length := by simp; omega
        rw [if_pos h1, if_pos h2]
        obtain ⟨n, rfl⟩ : ∃ n, x = a + 1 + n := ⟨x - (a + 1), by omega⟩
        have e1 : a + 1 + n - a = n + 1 := by omega
        have e2 : a + 1 + n - (a + 1) = n := by omega
        simp [e1, e2]
      · have h2 : ¬ (a ≤ x ∧ x < a + (v :: rest).length) := by simp; omega
        rw [if_neg h1, if_neg h2, readByte_writeByte_other _ _ hx]

/-- A block write leaves every byte outside the block as it was. -/
theorem readByte_writeBlock_other (m : Memory) (b : Byte) (d : Bytes) {x : Nat}
    (h : ∀ o < 16, x ≠ blockAddress b o) : readByte (writeBlock m b d) x = readByte m x := by
  rw [writeBlock, readByte_writeBytesFrom, if_neg]
  rintro ⟨h1, h2⟩
  have : (d.take 16).length ≤ 16 := by simp
  exact h (x - blockAddress b 0) (by omega) (by unfold blockAddress at *; omega)

/-- A block reads back as it was written. -/
theorem readBlock_writeBlock_self (m : Memory) (b : Byte) {d : Bytes} (h : d.length = 16) :
    readBlock (writeBlock m b d) b = d := by
  apply List.ext_getElem
  · simp [readBlock, h]
  · intro i h1 h2
    simp only [readBlock, List.getElem_map, List.getElem_range, writeBlock, readByte_writeBytesFrom]
    rw [if_pos (by unfold blockAddress; simp; omega)]
    have e : blockAddress b i - blockAddress b 0 = i := by unfold blockAddress; omega
    rw [e, List.take_of_length_le (by omega)]
    simp [h2]

/-- Writing one block leaves every other block as it was. -/
theorem readBlock_writeBlock_other (m : Memory) {b c : Byte} (d : Bytes) (h : c ≠ b) :
    readBlock (writeBlock m b d) c = readBlock m c := by
  unfold readBlock
  refine List.map_congr_left fun o ho => readByte_writeBlock_other _ _ _ fun o' ho' e => h ?_
  have ho : o < 16 := by simpa using ho
  exact BitVec.eq_of_toNat_eq (by unfold blockAddress at e; omega)

end Sys2Proof.Machine
end

