-- ==== Sys2Proof/Laws/Tasks.lean ====
section
/-!
SUPPORT. The operations in progress: what an agent is inside after each named update of the state.
-/

namespace Sys2Proof.Machine

/-- What an agent is inside depends on the three lists of operations alone. -/
theorem taskOf_congr {s t : State} (h1 : t.hostTasks = s.hostTasks) (h2 : t.handlerTask = s.handlerTask)
    (h3 : t.pollTask = s.pollTask) (a : Agent) : taskOf t a = taskOf s a := by
  cases a <;> simp [taskOf, h1, h2, h3]

@[simp] theorem taskOf_setTask_self (s : State) (a : Agent) (t : Option Task) :
    taskOf (setTask s a t) a = t := by
  cases a <;> cases t <;> simp [taskOf, setTask]

theorem taskOf_setTask_other (s : State) {a b : Agent} (t : Option Task) (h : b ≠ a) :
    taskOf (setTask s a t) b = taskOf s b := by
  cases a <;> cases t <;> cases b <;> simp_all [taskOf, setTask]
  · exact sparseFind_sparseDel_other _ h
  · exact sparseFind_sparsePut_other _ _ h

/-- Ending the operation of an agent that is inside none changes nothing. -/
theorem setTask_none_of_idle {s : State} {a : Agent} (h : taskOf s a = none) : setTask s a none = s := by
  cases a <;> simp only [taskOf] at h <;> simp [setTask, ← h]
  rw [sparseDel_of_sparseFind_none h]

@[simp] theorem taskOf_release (s : State) (a : Agent) : taskOf (release s) a = taskOf s a :=
  taskOf_congr rfl rfl rfl a

@[simp] theorem taskOf_returnResult (r : Result) (s : State) (a : Agent) :
    taskOf (returnResult r s) a = taskOf s a := taskOf_congr rfl rfl rfl a

@[simp] theorem taskOf_writeLastUid (u : Uid) (s : State) (a : Agent) :
    taskOf (writeLastUid u s) a = taskOf s a := taskOf_congr rfl rfl rfl a

@[simp] theorem taskOf_dispatch (s : State) (a : Agent) : taskOf (dispatch s) a = taskOf s a :=
  taskOf_congr rfl rfl rfl a

@[simp] theorem taskOf_eventReturn (s : State) (a : Agent) : taskOf (eventReturn s) a = taskOf s a :=
  taskOf_congr rfl rfl rfl a

@[simp] theorem taskOf_startInterval (s : State) (a : Agent) : taskOf (startInterval s) a = taskOf s a :=
  taskOf_congr rfl rfl rfl a

@[simp] theorem taskOf_buildUidQuery (s : State) (a : Agent) : taskOf (buildUidQuery s) a = taskOf s a :=
  taskOf_congr rfl rfl rfl a

@[simp] theorem taskOf_buildBlockRead (b : Byte) (s : State) (a : Agent) :
    taskOf (buildBlockRead b s) a = taskOf s a := taskOf_congr rfl rfl rfl a

@[simp] theorem taskOf_rxReset (s : State) (a : Agent) : taskOf (rxReset s) a = taskOf s a :=
  taskOf_congr rfl rfl rfl a

@[simp] theorem taskOf_configure (tx rx : PinId) (r : BaudRate) (s : State) (a : Agent) :
    taskOf (configure tx rx r s) a = taskOf s a := taskOf_congr rfl rfl rfl a

@[simp] theorem taskOf_awaitResponse_self (op : Instr) (loc : Locals) (s : State) :
    taskOf (awaitResponse op loc s) s.current = some ⟨op, .settle loc⟩ := taskOf_setTask_self _ _ _

theorem taskOf_awaitResponse_other (op : Instr) (loc : Locals) (s : State) {a : Agent} (h : a ≠ s.current) :
    taskOf (awaitResponse op loc s) a = taskOf s a :=
  (taskOf_setTask_other _ _ h).trans (taskOf_congr rfl rfl rfl a)

@[simp] theorem taskOf_endOperation_self (r : Result) (s : State) :
    taskOf (endOperation r s) s.current = none := by
  unfold endOperation; simp

theorem taskOf_endOperation_other (r : Result) (s : State) {a : Agent} (h : a ≠ s.current) :
    taskOf (endOperation r s) a = taskOf s a := by
  unfold endOperation; simp [taskOf_setTask_other _ _ h]

end Sys2Proof.Machine
end

