-- ==== Sys2Proof/Laws/Steps.lean ====
section
/-!
SUPPORT. What the shared operations and the step can do: one lemma for each, cited in place of unfolding it.
-/

namespace Sys2Proof.Machine

/-- A link operation that answers a next state was granted the lock, waits for it, resumed after its settle delay, or
is still inside that delay. -/
theorem linkOperation_next {op : Instr} {s t : State} {granted : State → Out} {resume : Locals → State → Out}
    (h : linkOperation op s granted resume = .next t) :
    (Ready s op ∧ s.linkLock = .free ∧ granted { s with linkLock := .held s.current } = .next t) ∨
    (Ready s op ∧ (∃ a, s.linkLock = .held a) ∧ t = setTask s s.current (some ⟨op, .lockWait⟩)) ∨
    (∃ loc, Settled s op loc ∧ resume loc s = .next t) ∨
    (∃ loc, taskOf s s.current = some ⟨op, .settle loc⟩ ∧ s.settleTimer ≠ 0 ∧ t = s) := by
  have grantCases : Ready s op → whenGranted op s granted = .next t →
      (Ready s op ∧ s.linkLock = .free ∧ granted { s with linkLock := .held s.current } = .next t) ∨
      (Ready s op ∧ (∃ a, s.linkLock = .held a) ∧ t = setTask s s.current (some ⟨op, .lockWait⟩)) := by
    intro hr hw
    unfold whenGranted acquire at hw
    cases hl : s.linkLock with
    | free => rw [hl] at hw; exact .inl ⟨hr, rfl, hw⟩
    | held a => rw [hl] at hw; exact .inr ⟨hr, ⟨a, rfl⟩, by simpa using hw.symm⟩
  unfold linkOperation at h
  cases ht : taskOf s s.current with
  | none =>
    rw [ht] at h
    rcases grantCases (.inl ht) h with h | h
    · exact .inl h
    · exact .inr (.inl h)
  | some task =>
    obtain ⟨top, phase⟩ := task
    rw [ht] at h
    by_cases ho : top = op
    · subst ho
      cases phase with
      | lockWait =>
        simp only [if_true] at h
        rcases grantCases (.inr ht) h with h | h
        · exact .inl h
        · exact .inr (.inl h)
      | settle loc =>
        simp only [if_true] at h
        by_cases hz : s.settleTimer = 0
        · rw [if_pos hz] at h; exact .inr (.inr (.inl ⟨loc, ⟨ht, hz⟩, h⟩))
        · rw [if_neg hz] at h; exact .inr (.inr (.inr ⟨loc, ht.symm ▸ rfl, hz, by simpa using h.symm⟩))
    · simp [ho] at h

/-- A link operation that is ready and finds the lock free goes on at once. -/
theorem linkOperation_granted {op : Instr} {s : State} {granted : State → Out} {resume : Locals → State → Out}
    (hr : Ready s op) (hl : s.linkLock = .free) :
    linkOperation op s granted resume = granted { s with linkLock := .held s.current } := by
  rcases hr with h | h <;> simp [linkOperation, h, whenGranted, acquire, hl]

/-- A link operation that is ready and finds the lock held waits for it. -/
theorem linkOperation_waits {op : Instr} {s : State} {granted : State → Out} {resume : Locals → State → Out}
    {a : Agent} (hr : Ready s op) (hl : s.linkLock = .held a) :
    linkOperation op s granted resume = .next (setTask s s.current (some ⟨op, .lockWait⟩)) := by
  rcases hr with h | h <;> simp [linkOperation, h, whenGranted, acquire, hl]

/-- A link operation whose settle delay has ended resumes. -/
theorem linkOperation_resumes {op : Instr} {s : State} {granted : State → Out} {resume : Locals → State → Out}
    {loc : Locals} (h : Settled s op loc) : linkOperation op s granted resume = resume loc s := by
  simp [linkOperation, h.1, h.2]

/-- An operation without a lock runs when its agent is inside nothing. -/
theorem freeOperation_next {s t : State} {run : State → Out} (h : freeOperation s run = .next t) :
    taskOf s s.current = none ∧ run s = .next t := by
  unfold freeOperation at h
  cases ht : taskOf s s.current with
  | none => rw [ht] at h; exact ⟨rfl, h⟩
  | some _ => rw [ht] at h; simp at h

/-- The Disconnected gating either lets the operation go on or ends it with its sentinel. -/
theorem gated_next {v : Val} {s t : State} {go : State → Out} (h : gated v s go = .next t) :
    (s.conn = true ∧ go s = .next t) ∨
    (s.conn = false ∧ t = endOperation ⟨v, .notConnected, false⟩ s) := by
  unfold gated at h
  cases hc : s.conn with
  | true => rw [hc] at h; exact .inl ⟨rfl, h⟩
  | false => rw [hc] at h; exact .inr ⟨rfl, by simpa using h.symm⟩

/-- A frame is sent only with the link up and the lock held. -/
theorem transmit_next {s t : State} (h : transmit s = .next t) :
    s.conn = true ∧ s.linkLock ≠ .free ∧ t = linkWrite (rxReset s) := by
  unfold transmit at h
  split at h
  next hc =>
    simp only [Bool.and_eq_true, bne_iff_ne, ne_eq] at hc
    exact ⟨hc.1, hc.2, by simpa using h.symm⟩
  next => simp at h

/-- With the link up and the lock held, a frame is sent. -/
theorem transmit_sends {s : State} (hc : s.conn = true) (hl : s.linkLock ≠ .free) :
    transmit s = .next (linkWrite (rxReset s)) := by
  simp [transmit, hc, hl]

/-- WRITE_STREAM at a block cursor ends after its last block, or builds the next BLOCK_WRITE and waits for its
acknowledgement. It is never refused. -/
theorem writeFrom_eq (op : Instr) (stream : Bytes) (k : Nat) (s : State) :
    writeFrom op stream k s =
      match (writtenBlocks s.cfg stream.length)[k]? with
      | none => .next (endOperation ⟨.bool true, .ok, truncated s.cfg stream.length⟩ s)
      | some b => .next (awaitResponse op ⟨k, [], stream⟩
          { s with txBuf := frameBytes (.blockWrite b (chunk stream k)) }) := by
  unfold writeFrom
  cases (writtenBlocks s.cfg stream.length)[k]? with
  | none => rfl
  | some b => simp only [buildBlockWrite_chunk]

/-- The two ways WRITE_STREAM goes on at a block cursor. -/
theorem writeFrom_next {op : Instr} {stream : Bytes} {k : Nat} {s t : State}
    (h : writeFrom op stream k s = .next t) :
    ((writtenBlocks s.cfg stream.length)[k]? = none ∧
      t = endOperation ⟨.bool true, .ok, truncated s.cfg stream.length⟩ s) ∨
    (∃ b, (writtenBlocks s.cfg stream.length)[k]? = some b ∧
      t = awaitResponse op ⟨k, [], stream⟩ { s with txBuf := frameBytes (.blockWrite b (chunk stream k)) }) := by
  rw [writeFrom_eq] at h
  cases hb : (writtenBlocks s.cfg stream.length)[k]? with
  | none => rw [hb] at h; exact .inl ⟨rfl, by simpa using h.symm⟩
  | some b => rw [hb] at h; exact .inr ⟨b, rfl, by simpa using h.symm⟩

/-- WRITE_STREAM after a settle delay: the error of the acknowledgement ends it, or it goes on with the next block. -/
theorem writeResume_next {op : Instr} {loc : Locals} {s t : State} (h : writeResume op loc s = .next t) :
    (∃ e, parseWriteAck (readExactly 8 s).2.cfg.validateRx (readExactly 8 s).1 = .error e ∧
      t = endOperation ⟨.bool false, e, truncated (readExactly 8 s).2.cfg loc.stream.length⟩ (readExactly 8 s).2) ∨
    (parseWriteAck (readExactly 8 s).2.cfg.validateRx (readExactly 8 s).1 = .ok () ∧
      writeFrom op loc.stream (loc.k + 1) (readExactly 8 s).2 = .next t) := by
  unfold writeResume at h
  revert h
  cases hp : parseWriteAck (readExactly 8 s).2.cfg.validateRx (readExactly 8 s).1 with
  | error e => intro h; exact .inl ⟨e, rfl, by simpa [hp] using h.symm⟩
  | ok u => intro h; exact .inr ⟨rfl, by simpa [hp] using h⟩

/-- The two ways READ_STREAM goes on at a block cursor. -/
theorem readFrom_next {op : Instr} {wrap : Bytes → Val} {k : Nat} {out : Bytes} {s t : State}
    (h : readFrom op wrap k out s = .next t) :
    ((blockSeq s.cfg)[k]? = none ∧ t = endOperation ⟨wrap out, .ok, false⟩ s) ∨
    (∃ b, (blockSeq s.cfg)[k]? = some b ∧ t = awaitResponse op ⟨k, out, []⟩ (buildBlockRead b s)) := by
  unfold readFrom at h
  cases hb : (blockSeq s.cfg)[k]? with
  | none => rw [hb] at h; exact .inl ⟨rfl, by simpa using h.symm⟩
  | some b => rw [hb] at h; exact .inr ⟨b, rfl, by simpa using h.symm⟩

/-- READ_STREAM after a settle delay: an error ends it, a zero pair ends it, or it goes on with the next block. -/
theorem readResume_next {op : Instr} {wrap : Bytes → Val} {loc : Locals} {s t : State}
    (h : readResume op wrap loc s = .next t) :
    (∃ e, parseReadRsp (readExactly 22 s).2.cfg.validateRx (readExactly 22 s).1 = .error e ∧
      t = endOperation ⟨wrap loc.out, e, false⟩ (readExactly 22 s).2) ∨
    (∃ blk i, parseReadRsp (readExactly 22 s).2.cfg.validateRx (readExactly 22 s).1 = .ok blk ∧
      findPair blk = some i ∧ t = endOperation ⟨wrap (loc.out ++ blk.take i), .ok, false⟩ (readExactly 22 s).2) ∨
    (∃ blk, parseReadRsp (readExactly 22 s).2.cfg.validateRx (readExactly 22 s).1 = .ok blk ∧
      findPair blk = none ∧ readFrom op wrap (loc.k + 1) (loc.out ++ blk) (readExactly 22 s).2 = .next t) := by
  unfold readResume at h
  revert h
  cases hp : parseReadRsp (readExactly 22 s).2.cfg.validateRx (readExactly 22 s).1 with
  | error e => intro h; exact .inl ⟨e, rfl, by simpa [hp] using h.symm⟩
  | ok blk =>
    cases hf : findPair blk with
    | some i => intro h; exact .inr (.inl ⟨blk, i, rfl, hf, by simpa [hp, hf] using h.symm⟩)
    | none => intro h; exact .inr (.inr ⟨blk, rfl, hf, by simpa [hp, hf] using h⟩)

/-- QUERY_UID once judged: always a next state; LAST_UID is written on success alone (44_card_session.md R231). -/
theorem queryUidJudged_eq (u : Except Err Uid) (s : State) :
    queryUidJudged u s =
      match u with
      | .error e => .next (endOperation ⟨.text [], e, false⟩ s)
      | .ok uid => .next (endOperation ⟨.text (hexRender uid), .ok, false⟩ (writeLastUid uid s)) := by
  cases u <;> rfl

/-- A frame in TX_BUF is carried out before any move of the environment. -/
theorem step_frame {s : State} (h : s.txBuf ≠ []) : step s = stepFrame s := by
  simp [step, h]

/-- With TX_BUF empty, a placed move is carried out next. -/
theorem step_placed {s : State} {e : Event} {rest : List Event} (h : s.txBuf = []) (he : s.events = e :: rest) :
    step s = stepEvent e { s with events := rest } := by
  simp [step, h, nextEvent, he]

/-- With TX_BUF empty, a step carries out some move, on the state without it. -/
theorem step_event {s : State} (h : s.txBuf = []) :
    ∃ e evs n, step s = stepEvent e { s with events := evs, drawn := n } := by
  unfold step
  rw [if_pos h]
  cases hev : s.events with
  | nil => exact ⟨Config.environment s.drawn, s.events, s.drawn + 1, by simp only [nextEvent, hev]⟩
  | cons e rest => exact ⟨e, rest, s.drawn, by simp [nextEvent, hev]⟩

/-- A request is passed over, or its instruction is carried out as the agent that issued it. -/
theorem stepRequest_next {a : Agent} {op : Byte} {args : List HostVal} {s t : State}
    (h : stepRequest a op args s = .next t) :
    t = s ∨ (∃ i, decode (.host op args) = .ok i ∧ taskOf s a = none ∧ (i = .handlerDone ∨ canIssue s a = true) ∧
      exec i { s with current := a } = .next t) := by
  unfold stepRequest at h
  split at h
  · exact .inl (by simpa using h.symm)
  next hn =>
    split at h
    · simp at h
    next i hi =>
      split at h
      next hc => exact .inr ⟨i, hi, by simpa using hn, hc, h⟩
      next => exact .inl (by simpa using h.symm)

/-- The scheduler's choice lets POLL take its step, or another agent go on with the operation it is inside. -/
theorem stepRun_next {a : Agent} {s t : State} (h : stepRun a s = .next t) :
    (a = .poll ∧ pollStep { s with current := .poll } = .next t) ∨ t = s ∨
    (∃ task, a ≠ .poll ∧ taskOf s a = some task ∧ exec task.op { s with current := a } = .next t) := by
  unfold stepRun at h
  split at h
  next ha => exact .inl ⟨ha, h⟩
  next ha =>
    split at h
    next => exact .inr (.inl (by simpa using h.symm))
    next task ht => exact .inr (.inr ⟨task, ha, ht, h⟩)

/-- What a step of POLL does: the interval after a dispatch, a tick, its detection, or nothing. -/
theorem pollStep_next {s t : State} (h : pollStep s = .next t) :
    (s.doneSignal = true ∧ t = startInterval { s with doneSignal := false }) ∨
    (s.doneSignal = false ∧ s.pollState = .idle ∧ s.pollTimer = 0 ∧ tickCondition s = true ∧
      execIsCardPresent { s with pollState := .detecting } = .next t) ∨
    (s.doneSignal = false ∧ s.pollState = .idle ∧ s.pollTimer = 0 ∧ tickCondition s = false ∧ t = startInterval s) ∨
    (s.doneSignal = false ∧ s.pollState = .detecting ∧ s.pollTask ≠ none ∧ execIsCardPresent s = .next t) ∨
    (s.doneSignal = false ∧ t = s) := by
  unfold pollStep at h
  split at h
  next hd => exact .inl ⟨hd, by simpa using h.symm⟩
  next hd =>
    replace hd : s.doneSignal = false := by simpa using hd
    refine .inr ?_
    split at h
    next hi =>
      split at h
      next hz =>
        unfold pollTick at h
        split at h
        next hc => exact .inl ⟨hd, hi, hz, hc, h⟩
        next hc => exact .inr (.inl ⟨hd, hi, hz, by simpa using hc, by simpa using h.symm⟩)
      next => exact .inr (.inr (.inr ⟨hd, by simpa using h.symm⟩))
    next hp =>
      split at h
      next => exact .inr (.inr (.inr ⟨hd, by simpa using h.symm⟩))
      next hn => exact .inr (.inr (.inl ⟨hd, hp, hn, h⟩))
    next => exact .inr (.inr (.inr ⟨hd, by simpa using h.symm⟩))

/-- A response that decodes is delivered byte for byte. -/
theorem exec_response {bytes : Bytes} {i : Instr} {s : State} (h : decode (.response bytes) = .ok i) :
    exec i s = .next (deliver bytes s) := by
  simp only [decode] at h
  unfold decodeResponse at h
  split at h
  · cases h; rfl
  · cases h; rfl
  next x0 x1 x2 x3 x4 rest _ _ =>
    split at h
    next hl =>
      cases h
      have hr : rest.take 16 ++ [rest.getD 16 0#8] = rest := by
        have : rest.drop 16 = [rest.getD 16 0#8] := by
          rw [List.drop_eq_getElem_cons (by omega), List.drop_eq_nil_of_le (by omega)]
          simp [List.getD_eq_getElem?_getD, List.getElem?_eq_getElem (show 16 < rest.length by omega)]
        rw [← this, List.take_append_drop]
      show Host.Outcome.next (deliver ([x0, x1, x2, x3, x4] ++ rest.take 16 ++ [rest.getD 16 0#8]) s) = _
      rw [List.append_assoc, hr]; rfl
    next => cases h
  · cases h

/-- A delivery puts its bytes in RX_FIFO, whether they are a response frame or not; SIMPARTNER makes none. -/
theorem stepReceive_eq (bytes : Bytes) (s : State) :
    stepReceive bytes s = if s.partner = .oracle then .next (deliver bytes s) else .next s := by
  unfold stepReceive
  split
  · split
    next i hi => exact exec_response hi
    next => rfl
  · rfl

end Sys2Proof.Machine
end

