-- ==== Sys2Proof/Laws/Faults.lean ====
section
/-!
SUPPORT. No instruction and no step faults: the block has no trap mechanism (60_exceptions.md R300), so `Fault` is empty.
-/

namespace Sys2Proof.Machine

/-- An outcome is a next state or a refusal. -/
theorem next_or_refused (o : Out) : (∃ t, o = .next t) ∨ ∃ r, o = .refused r := by
  cases o with
  | next t => exact .inl ⟨t, rfl⟩
  | fault f => cases f
  | refused r => exact .inr ⟨r, rfl⟩

/-- No instruction faults. -/
theorem exec_noFault (i : Instr) (s : State) (f : Fault) : exec i s ≠ .fault f := nomatch f

/-- No step faults. -/
theorem step_noFault (s : State) (f : Fault) : step s ≠ .fault f := nomatch f

end Sys2Proof.Machine
end

