-- ==== Sys2Proof/Laws/PerInstr.lean ====
section
/-!
SUPPORT. Laws stated for each instruction: the length of its frame. And the law of the memory after reset.
-/

namespace Sys2Proof.Laws.EncodedLength

/-- The length of an instruction's frame: 8, 8 and 23 bytes for the requests (30_encoding.md R81 to R83), 12, 8 and 22
for the responses (R90 to R92); a host request is no frame. -/
def rowLength : Instr → Nat
  | .init _ _ => 0
  | .disconnect => 0
  | .reconnect => 0
  | .registerHandler _ => 0
  | .queryUid => 0
  | .isInitialized => 0
  | .isCardPresent => 0
  | .writeText _ => 0
  | .readText => 0
  | .writeBytes _ => 0
  | .readBytes => 0
  | .handlerDone => 0
  | .uidQuery => 8
  | .blockRead _ => 8
  | .blockWrite _ _ => 23
  | .uidRsp _ _ _ => 12
  | .ackRsp _ _ _ _ => 8
  | .readRsp _ _ _ => 22

/-- A well-formed instruction's frame has its row's length. -/
def Statement (i : Instr) : Prop := i.wellFormed = true → (frameBytes i).length = rowLength i

theorem init (tx rx : PinId) : Statement (.init tx rx) := fun _ => rfl

theorem disconnect : Statement .disconnect := fun _ => rfl

theorem reconnect : Statement .reconnect := fun _ => rfl

theorem registerHandler (h : HandlerRef) : Statement (.registerHandler h) := fun _ => rfl

theorem queryUid : Statement .queryUid := fun _ => rfl

theorem isInitialized : Statement .isInitialized := fun _ => rfl

theorem isCardPresent : Statement .isCardPresent := fun _ => rfl

theorem writeText (text : HostString) : Statement (.writeText text) := fun _ => rfl

theorem readText : Statement .readText := fun _ => rfl

theorem writeBytes (data : Bytes) : Statement (.writeBytes data) := fun _ => rfl

theorem readBytes : Statement .readBytes := fun _ => rfl

theorem handlerDone : Statement .handlerDone := fun _ => rfl

theorem uidQuery : Statement .uidQuery := fun _ => rfl

theorem blockRead (b : Byte) : Statement (.blockRead b) := fun _ => rfl

theorem blockWrite (b : Byte) (d : Bytes) : Statement (.blockWrite b d) := by
  intro h
  have hd : d.length = 16 := by simpa [Instr.wellFormed] using h
  simp [frameBytes, encode, rowLength, hd]

theorem uidRsp (head : Bytes) (uid : Uid) (chk : Byte) : Statement (.uidRsp head uid chk) := by
  intro h
  have hh : head.length = 7 := by simpa [Instr.wellFormed] using h
  simp [frameBytes, encode, rowLength, Machine.uidBytes, hh]

theorem ackRsp (head : Bytes) (ack : Byte) (mid : Bytes) (chk : Byte) : Statement (.ackRsp head ack mid chk) := by
  intro h
  have hh : head.length = 4 ∧ mid.length = 2 := by simpa [Instr.wellFormed] using h
  simp [frameBytes, encode, rowLength, hh.1, hh.2]

theorem readRsp (head data : Bytes) (chk : Byte) : Statement (.readRsp head data chk) := by
  intro h
  have hh : head.length = 5 ∧ data.length = 16 := by simpa [Instr.wellFormed] using h
  simp [frameBytes, encode, rowLength, hh.1, hh.2]

end Sys2Proof.Laws.EncodedLength

namespace Sys2Proof.Machine

/-- TAG has the canonical form after reset. -/
theorem reset_tag_wf : memoryWf State.reset.tag = true := rfl

end Sys2Proof.Machine
end

