-- ==== Sys2Proof/Machine/Assembly.lean ====
section
/-!
DEFINITION. The written form of a host program's lines (30_encoding.md R103): `MNEMONIC operands`, operands separated
by commas. It has no effect on the machine.
-/

namespace Sys2Proof.Machine

/-- The mnemonic of an instruction, as spec/opcode_table.json spells it. -/
def mnemonic : Instr → String
  | .init _ _ => "INIT"
  | .disconnect => "DISCONNECT"
  | .reconnect => "RECONNECT"
  | .registerHandler _ => "REGISTER_HANDLER"
  | .queryUid => "QUERY_UID"
  | .isInitialized => "IS_INITIALIZED"
  | .isCardPresent => "IS_CARD_PRESENT"
  | .writeText _ => "WRITE_TEXT"
  | .readText => "READ_TEXT"
  | .writeBytes _ => "WRITE_BYTES"
  | .readBytes => "READ_BYTES"
  | .handlerDone => "HANDLER_DONE"
  | .uidQuery => "UID_QUERY"
  | .blockRead _ => "BLOCK_READ"
  | .blockWrite _ _ => "BLOCK_WRITE"
  | .uidRsp _ _ _ => "UID_RSP"
  | .ackRsp _ _ _ _ => "ACK_RSP"
  | .readRsp _ _ _ => "READ_RSP"

/-- A hexadecimal digit of an assembly line. -/
def asmHexDigit (n : Nat) : Char :=
  ['0', '1', '2', '3', '4', '5', '6', '7', '8', '9', 'A', 'B', 'C', 'D', 'E', 'F'].getD (n % 16) '0'

/-- A byte as R103 writes it, `0x41`. -/
def asmByte (b : Byte) : List Char := ['0', 'x', asmHexDigit (b.toNat / 16), asmHexDigit b.toNat]

/-- Items separated by a comma and a space. -/
def asmCommas : List (List Char) → List Char
  | [] => []
  | [x] => x
  | x :: rest => x ++ [',', ' '] ++ asmCommas rest

/-- An operand. R103 gives the forms of byte sequences and strings; a pin is written P and its number, a callback
reference h and its number, as in the programs of 95_test_vectors.md section 3. -/
def asmOperand : HostVal → List Char
  | .pin p => 'P' :: Nat.toDigits 10 p.id
  | .handler h => 'h' :: Nat.toDigits 10 h.id
  | .text s => ['"'] ++ s ++ ['"']
  | .bytes b => ['['] ++ asmCommas (b.map asmByte) ++ [']']

/-- The line of a host operation: its mnemonic, then its operands; none for a frame, which no program writes
(30_encoding.md R108). -/
def asmLine (i : Instr) : Option (List Char) :=
  match encode i with
  | .host _ [] => some (mnemonic i).toList
  | .host _ args => some ((mnemonic i).toList ++ [' '] ++ asmCommas (args.map asmOperand))
  | .request _ => none
  | .response _ => none

end Sys2Proof.Machine
end

