-- ==== Sys2Proof/Tests/Slice0.lean ====
section
/-!
SUPPORT. Tests. The expected values are those of spec/95_test_vectors.md (the vector is named in each comment) or are
worked out by hand from the rule named; the last part shows a state that meets the hypotheses of each statement.
-/

namespace Sys2Proof.Tests

open Sys2Proof.Machine

/-! ### Helpers -/

/-- What `f` says of the next state. -/
def after {α : Type} (o : Out) (f : State → α) : Option α :=
  match o with
  | .next t => some (f t)
  | .fault _ => none
  | .refused _ => none

/-- Why the machine refuses. -/
def whyRefused (o : Out) : Option Refusal :=
  match o with
  | .next _ => none
  | .fault _ => none
  | .refused r => some r

/-- TC1 after reset, before INIT. -/
def fresh : State := { State.reset with cfg := paramsTC1, rxCap := 64 }

/-- TC1 after INIT. Which pins there are is open (log 1): tests that depend on pins say so for all pins. -/
def base : State := { fresh with conn := true, cfgValid := true, cfgTx := somePin, cfgRx := somePin }

/-- With response validation ("V=1"). -/
def validating (s : State) : State := { s with cfg := { s.cfg with validateRx := true } }

/-- The current agent at the end of a settle delay of operation `i`, with these bytes received. -/
def settled (i : Instr) (loc : Locals) (fifo : Bytes) (s : State) : State :=
  { setTask s s.current (some ⟨i, .settle loc⟩) with linkLock := .held s.current, rxFifo := fifo }

/-- POLL while it detects. -/
def polling : State := { base with current := .poll, handlerValid := true, handler := someHandler, pollState := .detecting }

/-- HANDLER inside its callback. -/
def called : State :=
  { base with current := .handler, handlerValid := true, handler := someHandler, busy := true, pollState := .dispatching,
              running := some someHandler }

/-- The card of section 0. -/
def card : Uid := ⟨0xDE#8, 0xAD#8, 0xBE#8, 0xEF#8⟩

/-- SIMPARTNER with the card. -/
def simBase : State := { base with partner := .sim (some card) }

/-- The responses of section 0. -/
def uidGood : Bytes :=
  [0x01#8, 0x0C#8, 0xA1#8, 0x00#8, 0x00#8, 0x00#8, 0x00#8, 0xDE#8, 0xAD#8, 0xBE#8, 0xEF#8, 0x71#8]

def uidBad : Bytes :=
  [0x01#8, 0x0C#8, 0xA1#8, 0x00#8, 0x00#8, 0x00#8, 0x00#8, 0xDE#8, 0xAD#8, 0xBE#8, 0xEF#8, 0x00#8]

def ackGood : Bytes := [0x01#8, 0x08#8, 0xA4#8, 0x00#8, 0x00#8, 0x00#8, 0x00#8, 0x52#8]

def ackRejected : Bytes := [0x01#8, 0x08#8, 0xA4#8, 0x00#8, 0x01#8, 0x00#8, 0x00#8, 0x53#8]

def ackBad : Bytes := [0x01#8, 0x08#8, 0xA4#8, 0x00#8, 0x00#8, 0x00#8, 0x00#8, 0x53#8]

def abcBlock : Bytes := [0x41#8, 0x42#8, 0x43#8] ++ List.replicate 13 0x00#8

def readAbc : Bytes := [0x01#8, 0x16#8, 0xA3#8, 0x00#8, 0x00#8] ++ abcBlock ++ [0x0B#8]

def readAbcBad : Bytes := [0x01#8, 0x16#8, 0xA3#8, 0x00#8, 0x00#8] ++ abcBlock ++ [0x0C#8]

def readStale : Bytes := [0x01#8, 0x16#8, 0xA3#8, 0x00#8, 0x00#8] ++ List.replicate 16 0xEE#8 ++ [0x4B#8]

/-- The bytes 0x30 to 0x57 of program P2. -/
def fortyBytes : Bytes := (List.range 40).map (fun k => BitVec.ofNat 8 (0x30 + k))

/-! ### Well-formedness: an ill-formed term for each check -/

theorem test_wf_block_write_length : (Instr.blockWrite 8#8 (List.replicate 15 0#8)).wellFormed = false := by decide

theorem test_wf_uid_rsp_head : (Instr.uidRsp (List.replicate 6 0#8) card 0#8).wellFormed = false := by decide

theorem test_wf_ack_rsp_head : (Instr.ackRsp (List.replicate 5 0#8) 0#8 [0#8, 0#8] 0#8).wellFormed = false := by decide

theorem test_wf_ack_rsp_mid : (Instr.ackRsp (List.replicate 4 0#8) 0#8 [0#8] 0#8).wellFormed = false := by decide

theorem test_wf_read_rsp_head :
    (Instr.readRsp (List.replicate 4 0#8) (List.replicate 16 0#8) 0#8).wellFormed = false := by decide

theorem test_wf_read_rsp_data :
    (Instr.readRsp (List.replicate 5 0#8) (List.replicate 17 0#8) 0#8).wellFormed = false := by decide

/-! ### Decoding: every constructor from words written out -/

/-- The op codes of 30_encoding.md R100. -/
theorem test_decode_host_operations :
    (∀ tx rx, decode (.host 0x01#8 [.pin tx, .pin rx]) = .ok (.init tx rx)) ∧
    decode (.host 0x02#8 []) = .ok .disconnect ∧ decode (.host 0x03#8 []) = .ok .reconnect ∧
    (∀ h, decode (.host 0x04#8 [.handler h]) = .ok (.registerHandler h)) ∧
    decode (.host 0x05#8 []) = .ok .queryUid ∧ decode (.host 0x06#8 []) = .ok .isInitialized ∧
    decode (.host 0x07#8 []) = .ok .isCardPresent ∧
    decode (.host 0x08#8 [.text ['A', 'B', 'C']]) = .ok (.writeText ['A', 'B', 'C']) ∧
    decode (.host 0x09#8 []) = .ok .readText ∧
    decode (.host 0x0A#8 [.bytes [0x41#8]]) = .ok (.writeBytes [0x41#8]) ∧
    decode (.host 0x0B#8 []) = .ok .readBytes ∧ decode (.host 0x0C#8 []) = .ok .handlerDone := by
  refine ⟨fun _ _ => rfl, rfl, rfl, fun _ => rfl, rfl, rfl, rfl, rfl, rfl, rfl, rfl, rfl⟩

/-- F1. -/
theorem test_decode_uid_query :
    decode (.request [0x01#8, 0x08#8, 0xA1#8, 0x20#8, 0x00#8, 0x01#8, 0x00#8, 0x76#8]) = .ok .uidQuery := rfl

/-- F3 and F4. -/
theorem test_decode_block_read :
    decode (.request [0x01#8, 0x08#8, 0xA3#8, 0x20#8, 0x0C#8, 0x01#8, 0x00#8, 0x78#8]) = .ok (.blockRead 0x0C#8) ∧
    decode (.request [0x01#8, 0x08#8, 0xA3#8, 0x20#8, 0xFF#8, 0x01#8, 0x00#8, 0x8B#8]) = .ok (.blockRead 0xFF#8) :=
  ⟨rfl, rfl⟩

/-- F5, and F8 with its checksum 00. -/
theorem test_decode_block_write :
    decode (.request ([0x01#8, 0x17#8, 0xA4#8, 0x20#8, 0x08#8, 0x01#8, 0x41#8, 0x42#8, 0x43#8, 0x00#8, 0x00#8, 0x00#8,
      0x00#8, 0x00#8, 0x00#8, 0x00#8, 0x00#8, 0x00#8, 0x00#8, 0x00#8, 0x00#8, 0x00#8, 0x24#8])) =
      .ok (.blockWrite 8#8 abcBlock) ∧
    decode (.request ([0x01#8, 0x17#8, 0xA4#8, 0x20#8, 0x08#8, 0x01#8, 0x64#8] ++ List.replicate 15 0x00#8 ++ [0x00#8])) =
      .ok (.blockWrite 8#8 (0x64#8 :: List.replicate 15 0x00#8)) := ⟨rfl, rfl⟩

/-- The UID_RSP, the rejected ACK_RSP and the READ_RSP of section 0. -/
theorem test_decode_responses :
    decode (.response uidGood) =
      .ok (.uidRsp [0x01#8, 0x0C#8, 0xA1#8, 0x00#8, 0x00#8, 0x00#8, 0x00#8] card 0x71#8) ∧
    decode (.response ackRejected) = .ok (.ackRsp [0x01#8, 0x08#8, 0xA4#8, 0x00#8] 0x01#8 [0x00#8, 0x00#8] 0x53#8) ∧
    decode (.response readAbc) = .ok (.readRsp [0x01#8, 0x16#8, 0xA3#8, 0x00#8, 0x00#8] abcBlock 0x0B#8) :=
  ⟨rfl, rfl, rfl⟩

/-- What spells no instruction, by its reason (30_encoding.md R93, R95, R101, R102). -/
theorem test_decode_rejects :
    decode (.host 0x00#8 []) = .error (.unknownOpcode 0x00#8) ∧
    decode (.host 0x0D#8 []) = .error (.unknownOpcode 0x0D#8) ∧
    decode (.host 0x0A#8 []) = .error (.operandMismatch 0x0A#8) ∧
    decode (.request [0x01#8, 0x08#8, 0xA2#8, 0x20#8, 0x00#8, 0x01#8, 0x00#8, 0x75#8]) = .error .unknownHeader ∧
    decode (.request [0x01#8, 0x08#8, 0xA3#8, 0x20#8, 0x08#8, 0x01#8, 0x7C#8]) = .error .wrongLength ∧
    decode (.request [0x01#8, 0x08#8, 0xA1#8, 0x20#8, 0x01#8, 0x01#8, 0x00#8, 0x77#8]) = .error .badBlockField ∧
    decode (.request [0x01#8, 0x08#8, 0xA3#8, 0x20#8, 0x08#8, 0x02#8, 0x00#8, 0x7F#8]) = .error .badCount ∧
    decode (.request [0x01#8, 0x08#8, 0xA3#8, 0x20#8, 0x09#8, 0x01#8, 0x01#8, 0x7C#8]) = .error .badReserved ∧
    decode (.request [0x01#8, 0x08#8, 0xA3#8, 0x20#8, 0x08#8, 0x01#8, 0x00#8, 0x7D#8]) = .error .badChecksum ∧
    decode (.response (List.replicate 11 0x00#8)) = .error .noResponse := by
  refine ⟨rfl, rfl, rfl, rfl, rfl, rfl, rfl, rfl, rfl, rfl⟩

/-- Rows of spec/opcode_table.json: a host op code, the header of a request, a response of 12 bytes. -/
theorem test_decode_table_words :
    decodeTableWord 8 0x06 = some .isInitialized ∧ decodeTableWord 8 0x0D = none ∧
    decodeTableWord 64 0x0108A12000010076 = some .uidQuery ∧
    decodeTableWord 32 0x0108A320 = some (.blockRead 0#8) ∧
    decodeTableWord 96 0x010CA100000000DEADBEEF71 =
      some (.uidRsp [0x01#8, 0x0C#8, 0xA1#8, 0x00#8, 0x00#8, 0x00#8, 0x00#8] card 0x71#8) := by
  refine ⟨by decide, by decide, by decide, by decide, by decide⟩

/-- Lines in the form of programs P1 and P2 (30_encoding.md R103). -/
theorem test_assembly_lines :
    asmLine (.init somePin somePin) = some "INIT P0, P0".toList ∧
    asmLine (.writeBytes [0x41#8, 0x42#8]) = some "WRITE_BYTES [0x41, 0x42]".toList ∧ asmLine .uidQuery = none := by
  decide

/-! ### The codec -/

/-- X1, X2, X3, X6, X7, X9, X11. -/
theorem test_checksum :
    computeChecksum [0x01#8, 0x08#8, 0xA1#8, 0x20#8, 0x00#8, 0x01#8, 0x00#8, 0x00#8] = 0x76#8 ∧
    computeChecksum [0x55#8] = 0xFF#8 ∧ computeChecksum (List.replicate 8 0x00#8) = 0xFF#8 ∧
    verifyChecksum ackGood = true ∧ verifyChecksum ackBad = false ∧
    computeChecksum [0xA1#8, 0x20#8, 0x01#8, 0x08#8, 0x00#8, 0x01#8, 0x00#8, 0x00#8] = 0x76#8 ∧
    verifyChecksum [0x01#8, 0x08#8, 0xA3#8, 0x20#8, 0x09#8, 0x01#8, 0x01#8, 0x7C#8] = true := by decide

/-- P2, P8, P10, P12. -/
theorem test_parsers :
    parseUidRsp false (some uidBad) = .ok card ∧ parseUidRsp true (some uidBad) = .error .checksum ∧
    parseWriteAck true (some [0x01#8, 0x08#8, 0xA4#8, 0x00#8, 0x01#8, 0x00#8, 0x00#8, 0x00#8]) = .error .checksum ∧
    parseWriteAck true (some [0xFF#8, 0xFF#8, 0xFF#8, 0xFF#8, 0x00#8, 0xFF#8, 0xFF#8, 0xFF#8]) = .ok () ∧
    parseReadRsp true (some readAbcBad) = .error .checksum ∧ parseReadRsp false (some readAbcBad) = .ok abcBlock := by
  refine ⟨rfl, rfl, rfl, rfl, rfl, rfl⟩

/-- TC1, TC2 and K2. -/
theorem test_parameters_and_rendering :
    blockSeq paramsTC1 = [8#8, 9#8, 10#8, 12#8, 13#8, 14#8] ∧ blockSeq paramsTC2 = [8#8, 9#8, 10#8] ∧
    paramsLegal paramsTC1 = true ∧ hexRender ⟨0x01#8, 0x23#8, 0xAB#8, 0xCD#8⟩ = "0123ABCD".toList := by decide

/-! ### One step of each instruction -/

/-- T7. -/
theorem test_init_from_reset (tx rx : PinId) :
    after (exec (.init tx rx) fresh) (fun t => (t.conn, t.cfgValid, t.cfgTx, t.cfgRx, t.linkLock)) =
      some (true, true, tx, rx, .free) := rfl

/-- T12. -/
theorem test_init_replaces_pins (p8 p12 p1 p2 : PinId) :
    after (exec (.init p1 p2) { base with cfgTx := p8, cfgRx := p12 }) (fun t => (t.conn, t.cfgTx, t.cfgRx)) =
      some (true, p1, p2) := rfl

/-- T8. -/
theorem test_disconnect_keeps_pins (p8 p12 : PinId) :
    after (exec .disconnect { base with cfgTx := p8, cfgRx := p12 })
      (fun t => (t.conn, t.cfgValid, t.cfgTx, t.cfgRx)) = some (false, true, p8, p12) := rfl

/-- Q9: DISCONNECT by HOST_1 while POLL holds the lock. -/
theorem test_disconnect_waits :
    after (exec .disconnect { base with linkLock := .held .poll }) (fun t => (t.conn, taskOf t (.host 1), t.returns)) =
      some (true, some ⟨.disconnect, .lockWait⟩, []) := by decide

/-- T9. -/
theorem test_reconnect_restores (p8 p12 : PinId) :
    after (exec .reconnect { base with conn := false, cfgTx := p8, cfgRx := p12 })
      (fun t => (t.conn, t.cfgTx, t.cfgRx)) = some (true, p8, p12) := rfl

/-- T10. -/
theorem test_reconnect_from_reset : after (exec .reconnect fresh) (fun t => t.conn) = some false := by decide

/-- Q6. -/
theorem test_register_replaces (h₁ h₂ : HandlerRef) :
    after (exec (.registerHandler h₂) { called with handler := h₁, running := some h₁ })
      (fun t => (t.handler, t.handlerValid, t.running)) = some (h₂, true, some h₁) := rfl

/-- K3. -/
theorem test_query_uid :
    after (exec .queryUid (settled .queryUid noLocals uidGood base))
      (fun t => (t.lastUid, t.rxFifo, t.linkLock, t.returns)) =
      some (card, [], .free, [(.host 1, ⟨.text "DEADBEEF".toList, .ok, false⟩)]) := by decide

/-- K13. -/
theorem test_query_uid_bad_checksum :
    after (exec .queryUid (validating (settled .queryUid noLocals uidBad base)))
      (fun t => (t.lastUidWritten, t.returns)) = some (false, [(.host 1, ⟨.text [], .checksum, false⟩)]) := by decide

/-- K8. -/
theorem test_is_initialized :
    after (exec .isInitialized fresh) (fun t => t.returns) = some [(.host 1, ⟨.bool false, .ok, false⟩)] ∧
    after (exec .isInitialized base) (fun t => t.returns) = some [(.host 1, ⟨.bool true, .ok, false⟩)] := by decide

/-- K5: 11 bytes, which stay in RX_FIFO (T2). -/
theorem test_is_card_present_eleven_bytes :
    after (exec .isCardPresent (settled .isCardPresent noLocals (uidGood.take 11) base))
      (fun t => (t.rxFifo.length, t.returns)) = some (11, [(.host 1, ⟨.bool false, .noResponse, false⟩)]) := by decide

/-- Q4: the detection answers true and dispatches in the same step; LAST_UID is not written. -/
theorem test_detection_dispatches :
    after (exec .isCardPresent (settled .isCardPresent noLocals uidGood polling))
      (fun t => (t.busy, t.pollState, t.running, t.linkLock, t.lastUidWritten)) =
      some (true, .dispatching, some someHandler, .free, false) := by decide

/-- WRITE_TEXT on a rejecting partner, as B20. -/
theorem test_write_text_rejected :
    after (exec (.writeText []) (settled (.writeText []) ⟨0, [], [0x00#8, 0x00#8]⟩ ackRejected base))
      (fun t => t.returns) = some [(.host 1, ⟨.bool false, .writeRejected, false⟩)] := by decide

/-- WRITE_TEXT of one block accepted, as K10. -/
theorem test_write_text_ends :
    after (exec (.writeText []) (settled (.writeText []) ⟨0, [], [0x00#8, 0x00#8]⟩ ackGood base))
      (fun t => (t.linkLock, t.returns)) = some (.free, [(.host 1, ⟨.bool true, .ok, false⟩)]) := by decide

/-- K12. -/
theorem test_read_text_no_card :
    after (exec .readText (settled .readText noLocals [] base)) (fun t => t.returns) =
      some [(.host 1, ⟨.text [], .noResponse, false⟩)] := by decide

/-- T15's form for READ_TEXT: no frame, no wait. -/
theorem test_read_text_disconnected :
    after (exec .readText fresh) (fun t => (t.txBuf, t.settleTimer, t.returns)) =
      some ([], 0, [(.host 1, ⟨.text [], .notConnected, false⟩)]) := by decide

/-- S2: the one frame of WRITE_BYTES "ABC" (F5). And with CONN = 0, B22, and its 50 bytes under TC2, which they exceed:
44_card_session.md R234, "when Disconnected, `trunc` is 0" (log 13). -/
theorem test_write_bytes_first_frame :
    after (exec (.writeBytes [0x41#8, 0x42#8, 0x43#8]) base) (fun t => (t.txBuf, t.settleTimer, t.linkLock)) =
      some ([0x01#8, 0x17#8, 0xA4#8, 0x20#8, 0x08#8, 0x01#8] ++ abcBlock ++ [0x24#8], 50, .held (.host 1)) ∧
    after (exec (.writeBytes (List.replicate 50 0x30#8)) fresh) (fun t => (t.txBuf, t.settleTimer, t.returns)) =
      some ([], 0, [(.host 1, ⟨.bool false, .notConnected, false⟩)]) ∧
    after (exec (.writeBytes (List.replicate 50 0x30#8)) { fresh with cfg := paramsTC2 })
      (fun t => (t.txBuf, t.settleTimer, t.returns)) =
      some ([], 0, [(.host 1, ⟨.bool false, .notConnected, false⟩)]) := by decide

/-- P2: after the acknowledgement of block 8 the next frame writes block 9, with checksum 65. -/
theorem test_write_bytes_next_frame :
    after (exec (.writeBytes fortyBytes)
        (settled (.writeBytes fortyBytes) ⟨0, [], fortyBytes ++ [0x00#8, 0x00#8]⟩ ackGood base))
      (fun t => (t.txBuf.take 8, t.txBuf.getLast?)) =
      some ([0x01#8, 0x17#8, 0xA4#8, 0x20#8, 0x09#8, 0x01#8, 0x40#8, 0x41#8], some 0x65#8) := by decide

/-- S2: READ_BYTES of the ABC block ends at its pair. -/
theorem test_read_bytes_stops_at_pair :
    after (exec .readBytes (settled .readBytes noLocals readAbc base)) (fun t => t.returns) =
      some [(.host 1, ⟨.bytes [0x41#8, 0x42#8, 0x43#8], .ok, false⟩)] := by decide

/-- B17: a block of stale bytes without a pair is added, and block 12 follows block 10 (block 11 is reserved). -/
theorem test_read_bytes_goes_on :
    after (exec .readBytes (settled .readBytes ⟨2, [], []⟩ readStale base)) (fun t => (t.txBuf.getD 4 0#8, t.returns)) =
      some (0x0C#8, []) := by decide

/-- Q5. -/
theorem test_handler_done :
    after (exec .handlerDone called) (fun t => (t.busy, t.pollState, t.running, t.doneSignal)) =
      some (false, .idle, none, true) := by decide

/-- Q8. -/
theorem test_handler_done_by_host : whyRefused (exec .handlerDone base) = some .handlerDoneOutOfPlace := by decide

/-- T14: SIMPARTNER answers the query that goes out from TX_BUF. -/
theorem test_uid_query_frame :
    after (step { simBase with txBuf := frameBytes .uidQuery, linkLock := .held (.host 1), rxFifo := [0x00#8, 0x11#8] })
      (fun t => (t.rxFifo, t.txBuf, t.wire)) =
      some (uidGood, [], [[0x01#8, 0x08#8, 0xA1#8, 0x20#8, 0x00#8, 0x01#8, 0x00#8, 0x76#8]]) := by decide

/-- The READ_RSP of a block of 16 × EE. -/
theorem test_block_read_frame :
    after (exec (.blockRead 9#8) { simBase with linkLock := .held (.host 1) }) (fun t => t.rxFifo) = some readStale := by
  decide

/-- B2: the block after the write, and the accepting acknowledgement. -/
theorem test_block_write_frame :
    after (exec (.blockWrite 8#8 abcBlock) { simBase with linkLock := .held (.host 1) })
      (fun t => (readBlock t.tag 8#8, readByte t.tag 143, t.rxFifo)) = some (abcBlock, 0x00#8, ackGood) := by decide

/-- F9. -/
theorem test_block_write_fifteen_bytes :
    whyRefused (exec (.blockWrite 8#8 (List.replicate 15 0#8)) { simBase with linkLock := .held (.host 1) }) =
      some .blockDataLength := by decide

/-- A UID_RSP delivered while the operation waits. -/
theorem test_uid_rsp_arrives :
    after (step { base with events := [.receive uidGood] }) (fun t => (t.rxFifo, t.events)) = some (uidGood, []) := by
  decide

/-- Bytes beyond RX_CAP are dropped (10_state.md R33). -/
theorem test_ack_rsp_overflow :
    after (step { base with rxFifo := List.replicate 60 0x00#8, events := [.receive ackGood] })
      (fun t => (t.rxFifo.length, t.rxFifo.drop 60)) = some (64, ackGood.take 4) := by decide

/-- A READ_RSP behind a byte that was there. -/
theorem test_read_rsp_arrives :
    after (step { base with rxFifo := [0x11#8], events := [.receive readAbc] }) (fun t => t.rxFifo) =
      some (0x11#8 :: readAbc) := by decide

/-- Q1: with CONN = 0 a tick only waits. -/
theorem test_tick_disconnected :
    after (step { fresh with events := [.run .poll] }) (fun t => (t.pollState, t.pollTimer, t.txBuf)) =
      some (.idle, 20, []) := by decide

/-- A placed word is the first instruction after reset: INIT, and the BLOCK_READ of the table's header. -/
theorem test_placed_words_run :
    after (step (fresh.withFetchWord 8 0x01)) (fun t => (t.conn, t.returns.length)) = some (true, 1) ∧
    after (step (fresh.withFetchWord 32 0x0108A320)) (fun t => t.wire) =
      some [[0x01#8, 0x08#8, 0xA3#8, 0x20#8, 0x00#8, 0x01#8, 0x00#8, 0x74#8]] := by decide

/-! ### Witnesses: for each statement with hypotheses, states and operands that meet them, clause by clause -/

theorem witness_decode_of_encode :
    (Instr.blockWrite 0xFF#8 (List.replicate 16 0xFF#8)).wellFormed = true ∧
    (Instr.uidRsp (List.replicate 7 0#8) card 0#8).wellFormed = true ∧ (Instr.writeText []).wellFormed = true := by decide

theorem witness_accepted_request_frames :
    decode (.request [0x01#8, 0x08#8, 0xA3#8, 0x20#8, 0x08#8, 0x01#8, 0x00#8, 0x7C#8]) = .ok (.blockRead 8#8) := rfl

theorem witness_responses_told_by_length :
    uidGood.length = 12 ∧ ackGood.length = 8 ∧ readAbc.length = 22 ∧ (uidGood.take 11).length ≠ 12 := by decide

/-- The op codes next to 0x01 and 0x0C, and HANDLER_DONE by HOST_1 and while Idle. -/
theorem witness_refusals :
    ((0x00#8 : Byte) = 0#8 ∧ 12 < (0x0D#8 : Byte).toNat) ∧
    ({ base with events := [.request (.host 1) 0x0D#8 []] }.txBuf = [] ∧ taskOf base (.host 1) = none) ∧
    base.current ≠ .handler ∧ { called with pollState := .idle }.pollState ≠ .dispatching := by decide

theorem witness_checksum_laws :
    (0x7C#8 : Byte) = computeChecksum ([0x01#8, 0x08#8, 0xA3#8, 0x20#8, 0x08#8, 0x01#8, 0x00#8] ++ [0x7C#8]) ∧
    [0x01#8, 0x08#8].Perm ([0x08#8, 0x01#8] : Bytes) ∧
    ((0x01#8 : Byte) ≠ 0#8 ∧ verifyChecksum ([] ++ [0x08#8] ++ [] ++ [0xF7#8]) = true) ∧
    verifyChecksum ([0x01#8] ++ [0x08#8] ++ [] ++ [0x01#8] ++ [] ++ [0xF7#8]) = true ∧
    ∃ t, buildBlockWrite 8#8 abcBlock base = .ok t := by
  refine ⟨by decide, by decide, by decide, by decide, ⟨_, rfl⟩⟩

theorem witness_built_frames :
    (∃ f, f = (buildUidQuery base).txBuf) ∧ (∃ f b, f = (buildBlockRead b base).txBuf) ∧
    ∃ f b d t, buildBlockWrite b d base = .ok t ∧ f = t.txBuf :=
  ⟨⟨_, rfl⟩, ⟨_, 8#8, rfl⟩, ⟨_, 8#8, abcBlock, _, rfl, rfl⟩⟩

theorem witness_fill_and_block_write_lengths :
    ([0x55#8] : Bytes) ≠ [] ∧ abcBlock.length = 16 ∧ (abcBlock.take 15).length ≠ 16 ∧
    (abcBlock ++ [0x00#8]).length ≠ 16 := by decide

theorem witness_parsers :
    uidBad.length = 12 ∧ verifyChecksum uidBad = false ∧ ackRejected.length = 8 ∧ verifyChecksum ackRejected = true ∧
    readAbcBad.length = 22 ∧ verifyChecksum readAbcBad = false := by decide

/-- Two responses that differ only in bytes the block does not examine, for each operation, validation off and on. -/
theorem witness_unexamined_bytes :
    Settled (settled .queryUid noLocals [] base) .queryUid noLocals ∧
    (uidGood.length = 12 ∧ uidBad.length = 12 ∧ uidAt uidGood = uidAt uidBad ∧ base.cfg.validateRx = false) ∧
    Settled (validating (settled (.writeBytes []) noLocals [] base)) (.writeBytes []) noLocals ∧
    (verifyChecksum ackGood = verifyChecksum [0x00#8, 0x09#8, 0xA4#8, 0x00#8, 0x00#8, 0x00#8, 0x00#8, 0x52#8] ∧
      ackGood.getD 4 0#8 = 0x00#8) ∧
    Settled (settled .readBytes noLocals [] base) .readBytes noLocals ∧
    (readAbc.length = 22 ∧ readAbcBad.length = 22 ∧ (readAbc.drop 5).take 16 = (readAbcBad.drop 5).take 16) := by
  refine ⟨⟨rfl, rfl⟩, by decide, ⟨rfl, rfl⟩, by decide, ⟨rfl, rfl⟩, by decide⟩

/-- INIT, DISCONNECT, RECONNECT: issued with the lock free, or retrying while another agent holds it. -/
theorem witness_connection_control :
    (Ready fresh (.init somePin somePin) ∧ fresh.linkLock = .free) ∧ (Ready base .disconnect ∧ base.linkLock = .free) ∧
    (Ready fresh .reconnect ∧ fresh.linkLock = .free) ∧
    (Ready (setTask base (.host 1) (some ⟨.disconnect, .lockWait⟩)) .disconnect ∧
      { base with linkLock := .held .poll }.linkLock = .held .poll) ∧
    (base.current ≠ .poll ∧ isProtocolOp .queryUid = true ∧ ∃ t, exec .disconnect base = .next t) ∧
    ∃ t u, exec (.init somePin somePin) base = .next t ∧ exec .disconnect t = .next u :=
  ⟨⟨.inl rfl, rfl⟩, ⟨.inl rfl, rfl⟩, ⟨.inl rfl, rfl⟩, ⟨.inr rfl, rfl⟩, ⟨by decide, rfl, ⟨_, rfl⟩⟩, ⟨_, _, rfl, rfl⟩⟩

theorem witness_waits_for_the_lock :
    isLinkOp .queryUid = true ∧ Ready { base with linkLock := .held (.host 2) } .queryUid ∧
    { base with linkLock := .held (.host 2) }.linkLock = .held (.host 2) := ⟨rfl, .inl rfl, rfl⟩

theorem witness_gating :
    (isProtocolOp .readText = true ∧ Ready fresh .readText ∧ fresh.linkLock = .free ∧ fresh.conn = false ∧
      fresh.current ≠ .poll) ∧
    (Ready { polling with conn := false } .isCardPresent ∧ polling.linkLock = .free ∧ polling.current = .poll) ∧
    ({ base with linkLock := .held .poll }.linkLock ≠ .free ∧
      ∃ t, step { base with linkLock := .held .poll, events := [.request (.host 1) 0x02#8 []] } = .next t) :=
  ⟨⟨rfl, .inl rfl, rfl, rfl, by decide⟩, ⟨.inl rfl, rfl, rfl⟩, ⟨by decide, ⟨_, rfl⟩⟩⟩

theorem witness_first_frames :
    (∀ i, Ready base i) ∧ base.linkLock = .free ∧ base.conn = true ∧ (blockSeq base.cfg)[0]? = some 8#8 :=
  ⟨fun _ => .inl rfl, rfl, rfl, by decide⟩

theorem witness_settle_delay :
    isProtocolOp .readBytes = true ∧
    taskOf { settled .readBytes noLocals [] base with settleTimer := 1 } (.host 1) = some ⟨.readBytes, .settle noLocals⟩ ∧
    { settled .readBytes noLocals [] base with settleTimer := 1 }.settleTimer ≠ 0 := by decide

/-- QUERY_UID and IS_CARD_PRESENT: 12 good bytes, 12 bytes with a bad checksum, and 11 and 13 bytes. -/
theorem witness_uid_answers :
    (Settled (settled .queryUid noLocals uidGood base) .queryUid noLocals ∧ uidGood.length = 12 ∧
      verifyChecksum uidGood = true) ∧
    (Settled (validating (settled .queryUid noLocals uidBad base)) .queryUid noLocals ∧ uidBad.length = 12 ∧
      (validating base).cfg.validateRx = true ∧ verifyChecksum uidBad = false) ∧
    ((uidGood.take 11).length ≠ 12 ∧ (uidGood ++ [0x00#8]).length ≠ 12) ∧
    (Settled (settled .isCardPresent noLocals uidGood base) .isCardPresent noLocals ∧
      (settled .isCardPresent noLocals uidGood base).current ≠ .poll) :=
  ⟨⟨⟨rfl, rfl⟩, by decide, by decide⟩, ⟨⟨rfl, rfl⟩, by decide, rfl, by decide⟩, by decide, ⟨⟨rfl, rfl⟩, by decide⟩⟩

theorem witness_is_initialized :
    taskOf base base.current = none ∧ (Ready fresh (.init somePin somePin) ∧ ∃ t, exec (.init somePin somePin) fresh = .next t) ∧
    (Ready { base with conn := false } .reconnect ∧ base.cfgValid = true ∧
      ∃ t, exec .reconnect { base with conn := false } = .next t) :=
  ⟨rfl, ⟨.inl rfl, ⟨_, rfl⟩⟩, ⟨.inl rfl, rfl, ⟨_, rfl⟩⟩⟩

/-- A stream write after its last block (k = 5 of 94 bytes and the terminator), before another (k = 0 of 40 bytes), and
after each kind of bad acknowledgement. -/
theorem witness_stream_write :
    (Settled (settled (.writeBytes fortyBytes) ⟨5, [], List.replicate 96 0x41#8⟩ ackGood base)
        (.writeBytes fortyBytes) ⟨5, [], List.replicate 96 0x41#8⟩ ∧ ackGood.length = 8 ∧ ackGood.getD 4 0#8 = 0#8 ∧
      (writtenBlocks base.cfg 96)[6]? = none) ∧
    ((writtenBlocks base.cfg 42)[1]? = some 9#8 ∧ verifyChecksum ackGood = true) ∧
    (ackRejected.length = 8 ∧ verifyChecksum ackRejected = true ∧ ackRejected.getD 4 0#8 ≠ 0#8) ∧
    (ackBad.length = 8 ∧ (validating base).cfg.validateRx = true ∧ verifyChecksum ackBad = false) ∧
    ((ackGood.take 7).length ≠ 8 ∧ (ackGood ++ [0x00#8]).length ≠ 8) := by
  refine ⟨⟨⟨rfl, rfl⟩, by decide, by decide, by decide⟩, by decide, by decide, by decide, by decide⟩

/-- A stream read at a block with a pair, at one without before the last block, at one without after it (k = 5), and
after each kind of failure. -/
theorem witness_stream_read :
    (Settled (settled .readBytes ⟨0, [], []⟩ readAbc base) .readBytes ⟨0, [], []⟩ ∧ readAbc.length = 22 ∧
      findPair abcBlock = some 3 ∧ (readAbc.drop 5).take 16 = abcBlock) ∧
    (Settled (settled .readText ⟨5, [], []⟩ readStale base) .readText ⟨5, [], []⟩ ∧ readStale.length = 22 ∧
      findPair ((readStale.drop 5).take 16) = none ∧ (blockSeq base.cfg)[6]? = none) ∧
    (blockSeq base.cfg)[5]? = some 14#8 ∧
    ((readAbc.take 21).length ≠ 22 ∧ (validating base).cfg.validateRx = true ∧ verifyChecksum readAbcBad = false) := by
  refine ⟨⟨⟨rfl, rfl⟩, by decide, by decide, by decide⟩, ⟨⟨rfl, rfl⟩, by decide, by decide, by decide⟩, by decide,
    by decide⟩

/-- FIND_PAIR at its last offset 14, and a usable index that BLOCK_SEQ does not reach (15 under TC1). -/
theorem witness_pairs_and_blocks :
    (List.replicate 14 0x41#8 ++ [0x00#8, 0x00#8] : Bytes).length = 16 ∧
    findPair (List.replicate 14 0x41#8 ++ [0x00#8, 0x00#8]) = some 14 ∧
    (paramsTC1.base.toNat ≤ (15#8 : Byte).toNat ∧ 15#8 ∉ paramsTC1.reserved ∧ 15#8 ∉ blockSeq paramsTC1) ∧
    paramsLegal paramsTC1 = true ∧ hexRender card = hexRender card := by decide

theorem witness_request_frames :
    (List.replicate 16 0xFF#8 : Bytes).length = 16 ∧ base.conn = true ∧
    { base with linkLock := .held (.host 1) }.linkLock ≠ .free ∧ base.partner = .oracle ∧
    { base with partner := .sim none }.partner = .sim none ∧
    (fresh.conn = false ∧ base.linkLock = .free) ∧
    (simBase.partner = .sim (some card) ∧ 22 ≤ simBase.cfg.rxCapacity) := by decide

theorem witness_register_handler :
    taskOf called called.current = none ∧
    (∃ t u, exec (.registerHandler someHandler) base = .next t ∧ exec (.registerHandler someHandler) t = .next u) ∧
    (called.handlerValid = true ∧ ∃ t, exec .disconnect called = .next t) :=
  ⟨rfl, ⟨_, _, rfl, rfl⟩, ⟨rfl, ⟨_, rfl⟩⟩⟩

theorem witness_handler_done :
    (called.current = .handler ∧ called.pollState = .dispatching ∧ taskOf called .handler = none) ∧
    (base.current ≠ .handler ∧ { called with pollState := .idle }.pollState ≠ .dispatching) ∧
    { base with doneSignal := true }.doneSignal = true := by decide

/-- A detection at the end of its settle delay: 12 good bytes, 12 bytes with a bad checksum, 11 bytes; and POLL while
the callback runs. -/
theorem witness_detection :
    (Settled (settled .isCardPresent noLocals uidGood polling) .isCardPresent noLocals ∧ polling.current = .poll) ∧
    (Settled (validating (settled .isCardPresent noLocals uidBad polling)) .isCardPresent noLocals ∧
      (validating polling).cfg.validateRx = true ∧ verifyChecksum uidBad = false) ∧
    (uidGood.length = 12 ∧ (uidGood.take 11).length ≠ 12) ∧
    (called.doneSignal = false ∧ called.pollState = .dispatching) :=
  ⟨⟨⟨rfl, rfl⟩, rfl⟩, ⟨⟨rfl, rfl⟩, rfl, by decide⟩, by decide, by decide⟩

/-- A tick with its condition true and the lock free or held, and one with the condition false. -/
theorem witness_tick :
    ({ base with events := [.run .poll], handlerValid := true }.txBuf = [] ∧ base.doneSignal = false ∧
      base.pollState = .idle ∧ base.pollTimer = 0 ∧ base.pollTask = none ∧ base.conn = true ∧ base.busy = false ∧
      base.linkLock = .free) ∧
    { base with linkLock := .held (.host 2) }.linkLock = .held (.host 2) ∧
    (fresh.conn = false ∧ base.handlerValid = false) := by decide

/-! #### The step -/

theorem witness_step_forms :
    ({ base with events := [.request (.host 1) 0x06#8 []] }.txBuf = [] ∧ taskOf base (.host 1) = none ∧
      canIssue base (.host 1) = true ∧ canIssue called .handler = true) ∧
    { base with txBuf := frameBytes .uidQuery }.txBuf ≠ [] ∧
    (taskOf (settled .queryUid noLocals [] base) (.host 1) = some ⟨.queryUid, .settle noLocals⟩ ∧
      (.host 1 : Agent) ≠ .poll) ∧
    (taskOf (settled .isCardPresent noLocals [] polling) .poll = some ⟨.isCardPresent, .settle noLocals⟩ ∧
      polling.doneSignal = false ∧ polling.pollState = .detecting) ∧
    (decodeTableWord 8 0x0C = some .handlerDone ∧ decodeTableWord 8 0x06 = some .isInitialized ∧
      decodeTableWord 32 0x0108A120 = some .uidQuery ∧ (decodeTableWord 96 0).isSome = true) := by decide

theorem witness_step_decodes :
    decode (.host 0x06#8 []) = .ok .isInitialized ∧ decode (.request (frameBytes .uidQuery)) = .ok .uidQuery ∧
    ∃ i, decode (.response uidGood) = .ok i := ⟨rfl, rfl, ⟨_, rfl⟩⟩

/-- A time step, a delivery of no response's length, a delivery and a card under SIMPARTNER. -/
theorem witness_outside_moves :
    ({ base with events := [.elapse 7] }.txBuf = [] ∧ { base with events := [.elapse 7] }.events = .elapse 7 :: []) ∧
    { base with events := [.receive [0x00#8]] }.partner = .oracle ∧
    { simBase with events := [.receive [0x00#8]] }.partner = .sim (some card) ∧
    { simBase with events := [.setCard none] }.events = .setCard none :: [] := by decide

theorem witness_frames_of_instructions :
    (∃ t, exec (.registerHandler someHandler) called = .next t) ∧ (isHostOp .isInitialized = true ∧
      ∃ t, exec .isInitialized called = .next t) ∧
    (∃ t, exec .readBytes fresh = .next t ∧ t.returns = (.host 1, ⟨.bytes [], .notConnected, false⟩) :: fresh.returns) ∧
    Err.notConnected ≠ .ok ∧ (isLinkOp .handlerDone = false ∧ ∃ t, exec .handlerDone called = .next t) ∧
    (isHostOp .disconnect = true ∧ isProtocolOp .disconnect = false ∧ isRequestFrame .disconnect = false ∧
      ∃ t, exec .disconnect base = .next t) :=
  ⟨⟨_, rfl⟩, ⟨rfl, ⟨_, rfl⟩⟩, ⟨_, rfl, rfl⟩, by decide, ⟨rfl, ⟨_, rfl⟩⟩, ⟨rfl, rfl, rfl, ⟨_, rfl⟩⟩⟩

theorem witness_operations_before_init :
    isProtocolOp (.writeBytes []) = true ∧ { State.reset with current := .host 2 }.current = .host 2 := ⟨rfl, rfl⟩

/-! #### The invariants: HANDLER inside QUERY_UID inside its callback, its frame in TX_BUF -/

/-- A state in the middle of program P3. -/
def mid : State :=
  { called with handlerTask := some ⟨.queryUid, .settle noLocals⟩, linkLock := .held .handler, settleTimer := 50,
                txBuf := frameBytes .uidQuery, returns := [(.host 1, ⟨.none, .ok, false⟩)],
                hostTasks := [(1, ⟨.disconnect, .lockWait⟩)] }

theorem mid_poll : PollInv mid :=
  ⟨by decide, by decide, by decide, by decide, by decide, by decide, by decide⟩

theorem mid_task (a : Agent) :
    taskOf mid a = if a = .handler then some ⟨.queryUid, .settle noLocals⟩
      else if a = .host 1 then some ⟨.disconnect, .lockWait⟩ else none := by
  cases a with
  | host k =>
    by_cases h : k = 1
    · subst h; rfl
    · have h' : ¬ 1 = k := fun e => h e.symm
      simp [taskOf, mid, sparseFind, h, h']
  | handler => rfl
  | poll => rfl

theorem mid_link : LinkInv mid := by
  refine ⟨fun a => ?_, fun _ => rfl, fun a t h => ?_, fun a op loc h => ?_, fun a op loc h => ?_⟩ <;>
    rw [mid_task] at * <;> by_cases ha : a = .handler
  · subst ha; simp [mid]
  · have hl : mid.linkLock ≠ .held a := by intro e; exact ha (LinkLock.held.inj e).symm
    by_cases hb : a = .host 1
    · subst hb; simp [mid]
    · simp [ha, hb, hl]
  · simp only [ha, if_true, Option.some.injEq] at h; subst h; rfl
  · by_cases hb : a = .host 1
    · subst hb; simp at h; subst h; rfl
    · simp [ha, hb] at h
  · simp only [ha, if_true, Option.some.injEq, Task.mk.injEq, Phase.settle.injEq] at h; rw [← h.1]; rfl
  · by_cases hb : a = .host 1 <;> simp [ha, hb] at h
  · simp only [ha, if_true, Option.some.injEq, Task.mk.injEq, Phase.settle.injEq] at h; rw [← h.2]; decide
  · by_cases hb : a = .host 1 <;> simp [ha, hb] at h

theorem mid_buffer : BufferInv mid :=
  ⟨by decide, rfl, .inr ⟨by decide, .inl rfl⟩, fun f h => by cases h⟩

theorem mid_data : DataInv mid := by
  refine ⟨by decide, fun _ => rfl, rfl, by decide, by decide, fun r h => ?_⟩
  have hr : r = (.host 1, ⟨.none, .ok, false⟩) := by simpa [mid] using h
  subst hr; exact ⟨rfl, rfl⟩

/-- The whole invariant holds in a state that a run reaches, and a step leads on from there. -/
theorem witness_invariants : Inv mid ∧ ∃ t, step mid = .next t :=
  ⟨⟨mid_poll, mid_link, mid_buffer, mid_data⟩, ⟨_, rfl⟩⟩

/-- For the moves of POLL_STATE, one step for each cause: the tick that enters Detecting, the detection that dispatches,
the three that go back to Idle (CONN = 0 at the grant, 11 bytes, a bad checksum), and the HANDLER_DONE. -/
def tickNow : State := { base with handlerValid := true, events := [.run .poll] }

def detected (fifo : Bytes) : State := { settled .isCardPresent noLocals fifo polling with events := [.run .poll] }

def lostLink : State :=
  { polling with conn := false, pollTask := some ⟨.isCardPresent, .lockWait⟩, events := [.run .poll] }

def doneNow : State := { called with events := [.request .handler 0x0C#8 []] }

theorem witness_poll_moves :
    (PollInv tickNow ∧ after (step tickNow) (fun t => t.pollState) = some .detecting) ∧
    (PollInv (detected uidGood) ∧ after (step (detected uidGood)) (fun t => t.pollState) = some .dispatching) ∧
    (PollInv lostLink ∧ after (step lostLink) (fun t => t.pollState) = some .idle) ∧
    (PollInv (detected (uidGood.take 11)) ∧
      after (step (detected (uidGood.take 11))) (fun t => t.pollState) = some .idle) ∧
    (PollInv (validating (detected uidBad)) ∧
      after (step (validating (detected uidBad))) (fun t => t.pollState) = some .idle) ∧
    (PollInv doneNow ∧ after (step doneNow) (fun t => t.pollState) = some .idle ∧ doneNow.busy = true) := by
  refine ⟨⟨⟨?_, ?_, ?_, ?_, ?_, ?_, ?_⟩, ?_⟩, ⟨⟨?_, ?_, ?_, ?_, ?_, ?_, ?_⟩, ?_⟩, ⟨⟨?_, ?_, ?_, ?_, ?_, ?_, ?_⟩, ?_⟩,
    ⟨⟨?_, ?_, ?_, ?_, ?_, ?_, ?_⟩, ?_⟩, ⟨⟨?_, ?_, ?_, ?_, ?_, ?_, ?_⟩, ?_⟩, ⟨⟨?_, ?_, ?_, ?_, ?_, ?_, ?_⟩, ?_, ?_⟩⟩ <;>
    decide

/-! #### Whole operations under SIMPARTNER -/

/-- What the three kinds of run ask of the state before them, for HOST_1 with these moves placed. -/
def readyToRun (evs : List Event) : Prop :=
  ∀ s : State, s = { simBase with events := evs } →
    paramsLegal s.cfg = true ∧ s.partner = .sim (some card) ∧ s.conn = true ∧ s.linkLock = .free ∧ s.txBuf = [] ∧
    taskOf s (.host 1) = none ∧ canIssue s (.host 1) = true ∧ s.events = evs

theorem ready_to_run (evs : List Event) : readyToRun evs := by
  rintro s rfl
  exact ⟨(by decide : paramsLegal paramsTC1 = true), rfl, rfl, rfl, rfl, rfl, rfl, rfl⟩

/-- QUERY_UID by HOST_1: the request, one settle delay, the resumption. -/
theorem witness_query_uid_run :
    readyToRun (.request (.host 1) 0x05#8 [] :: (resumes (.host 1) simBase.cfg.settleMs 1 ++ [])) := ready_to_run _

/-- WRITE_BYTES at the budget's edge: 94 and 95 bytes under TC1 (trunc 0 and 1), six blocks each. -/
theorem witness_stream_write_run :
    (6 = min (((List.replicate 94 0x41#8 : Bytes).length + 2 + 15) / 16) (budgetBlocks simBase.cfg.budget) ∧
      6 = min (((List.replicate 95 0x41#8 : Bytes).length + 2 + 15) / 16) (budgetBlocks simBase.cfg.budget)) ∧
    readyToRun (.request (.host 1) 0x0A#8 [.bytes (List.replicate 94 0x41#8)] ::
      (resumes (.host 1) simBase.cfg.settleMs 6 ++ [])) ∧
    readyToRun (.request (.host 1) 0x0A#8 [.bytes (List.replicate 95 0x41#8)] ::
      (resumes (.host 1) simBase.cfg.settleMs 6 ++ [])) := ⟨by decide, ready_to_run _, ready_to_run _⟩

/-- The round trip of the longest data, 94 bytes under TC1. -/
theorem witness_round_trip_run :
    ((0x00#8 : Byte) ∉ (List.replicate 94 0x41#8 : Bytes) ∧
      (List.replicate 94 0x41#8 : Bytes).length ≤ 16 * budgetBlocks simBase.cfg.budget - 2 ∧
      (List.replicate 94 0x41#8 : Bytes).length % 16 ≠ 15 ∧
      6 = ((List.replicate 94 0x41#8 : Bytes).length + 2 + 15) / 16) ∧
    readyToRun (.request (.host 1) 0x0A#8 [.bytes (List.replicate 94 0x41#8)] ::
      (resumes (.host 1) simBase.cfg.settleMs 6 ++
        .request (.host 1) 0x0B#8 [] :: (resumes (.host 1) simBase.cfg.settleMs 6 ++ []))) :=
  ⟨by decide, ready_to_run _⟩

/-- The straddling terminator of 15 bytes (vector B4). -/
theorem witness_straddling_run :
    ((0x00#8 : Byte) ∉ (List.replicate 15 0x41#8 : Bytes) ∧
      (List.replicate 15 0x41#8 : Bytes).length ≤ 16 * budgetBlocks simBase.cfg.budget - 2 ∧
      (List.replicate 15 0x41#8 : Bytes).length % 16 = 15 ∧
      2 = ((List.replicate 15 0x41#8 : Bytes).length + 2 + 15) / 16) ∧
    readyToRun (.request (.host 1) 0x0A#8 [.bytes (List.replicate 15 0x41#8)] ::
      (resumes (.host 1) simBase.cfg.settleMs 2 ++
        .request (.host 1) 0x0B#8 [] :: (resumes (.host 1) simBase.cfg.settleMs 2 ++ []))) :=
  ⟨by decide, ready_to_run _⟩

end Sys2Proof.Tests
end

