-- ==== Sys2Proof/Proofs/PollRegisters.lean ====
section
/-!
The registers of the poll engine, taken together: which updates, operations and frames leave them as they are, and the
two instructions that write them. Only HANDLER_DONE and the IS_CARD_PRESENT that agent POLL runs do (45_poll_loop.md
R263, R266).
-/

namespace Sys2Proof.Machine

/-- What the poll engine alone writes: BUSY, POLL_STATE, POLL_TIMER, the running callback and the signal. -/
structure PollRegs where
  busy : Bool
  pollState : PollState
  pollTimer : Nat
  running : Option HandlerRef
  doneSignal : Bool

/-- The poll engine's registers of a state. -/
def pollRegs (s : State) : PollRegs := ⟨s.busy, s.pollState, s.pollTimer, s.running, s.doneSignal⟩

theorem busy_of_pollRegs {s t : State} (h : pollRegs t = pollRegs s) : t.busy = s.busy := congrArg PollRegs.busy h

theorem pollState_of_pollRegs {s t : State} (h : pollRegs t = pollRegs s) : t.pollState = s.pollState :=
  congrArg PollRegs.pollState h

/-! ### Updates that leave them -/

@[simp] theorem pollRegs_setTask (s : State) (a : Agent) (task : Option Task) :
    pollRegs (setTask s a task) = pollRegs s := by simp [pollRegs]

@[simp] theorem pollRegs_endOperation (r : Result) (s : State) : pollRegs (endOperation r s) = pollRegs s := by
  simp [pollRegs]

@[simp] theorem pollRegs_awaitResponse (op : Instr) (loc : Locals) (s : State) :
    pollRegs (awaitResponse op loc s) = pollRegs s := by simp [pollRegs]

@[simp] theorem pollRegs_writeLastUid (u : Uid) (s : State) : pollRegs (writeLastUid u s) = pollRegs s := rfl

@[simp] theorem pollRegs_configure (tx rx : PinId) (r : BaudRate) (s : State) :
    pollRegs (configure tx rx r s) = pollRegs s := rfl

@[simp] theorem pollRegs_buildUidQuery (s : State) : pollRegs (buildUidQuery s) = pollRegs s := rfl

@[simp] theorem pollRegs_buildBlockRead (b : Byte) (s : State) : pollRegs (buildBlockRead b s) = pollRegs s := rfl

@[simp] theorem pollRegs_rxReset (s : State) : pollRegs (rxReset s) = pollRegs s := rfl

@[simp] theorem pollRegs_deliver (bytes : Bytes) (s : State) : pollRegs (deliver bytes s) = pollRegs s := by
  rw [deliver_eq]; rfl

@[simp] theorem pollRegs_linkWrite (s : State) : pollRegs (linkWrite s) = pollRegs s := by
  unfold linkWrite partnerReacts
  cases s.partner with
  | oracle => rfl
  | sim card => exact pollRegs_deliver _ _

@[simp] theorem pollRegs_readExactly (n : Nat) (s : State) : pollRegs (readExactly n s).2 = pollRegs s := by
  rw [readExactly_eq]; split <;> rfl

@[simp] theorem readExactly_current (n : Nat) (s : State) : (readExactly n s).2.current = s.current := by
  rw [readExactly_eq]; split <;> rfl

/-! ### Shared operations that leave them -/

/-- A link operation leaves them when its grant and its resumption do. -/
theorem linkOperation_keeps_pollRegs {op : Instr} {s t : State} {granted : State → Out}
    {resume : Locals → State → Out} (h : linkOperation op s granted resume = .next t)
    (hgrant : ∀ u, granted u = .next t → pollRegs t = pollRegs u)
    (hresume : ∀ loc, resume loc s = .next t → pollRegs t = pollRegs s) : pollRegs t = pollRegs s := by
  rcases linkOperation_next h with ⟨-, -, hg⟩ | ⟨-, -, rfl⟩ | ⟨loc, -, hr⟩ | ⟨-, -, -, rfl⟩
  · exact (hgrant _ hg).trans rfl
  · exact pollRegs_setTask _ _ _
  · exact hresume loc hr
  · rfl

/-- The Disconnected gating leaves them when the operation behind it does. -/
theorem gated_keeps_pollRegs {v : Val} {s t : State} {go : State → Out} (h : gated v s go = .next t)
    (hgo : go s = .next t → pollRegs t = pollRegs s) : pollRegs t = pollRegs s := by
  rcases gated_next h with ⟨-, hg⟩ | ⟨-, rfl⟩
  · exact hgo hg
  · exact pollRegs_endOperation _ _

theorem transmit_keeps_pollRegs {s t : State} (h : transmit s = .next t) : pollRegs t = pollRegs s := by
  obtain ⟨-, -, rfl⟩ := transmit_next h
  simp

theorem writeFrom_keeps_pollRegs {op : Instr} {stream : Bytes} {k : Nat} {s t : State}
    (h : writeFrom op stream k s = .next t) : pollRegs t = pollRegs s := by
  rcases writeFrom_next h with ⟨-, rfl⟩ | ⟨b, -, rfl⟩
  · exact pollRegs_endOperation _ _
  · exact pollRegs_awaitResponse _ _ _

theorem writeResume_keeps_pollRegs {op : Instr} {loc : Locals} {s t : State} (h : writeResume op loc s = .next t) :
    pollRegs t = pollRegs s := by
  rcases writeResume_next h with ⟨e, -, rfl⟩ | ⟨-, hw⟩
  · simp
  · simpa using writeFrom_keeps_pollRegs hw

theorem readFrom_keeps_pollRegs {op : Instr} {wrap : Bytes → Val} {k : Nat} {out : Bytes} {s t : State}
    (h : readFrom op wrap k out s = .next t) : pollRegs t = pollRegs s := by
  rcases readFrom_next h with ⟨-, rfl⟩ | ⟨b, -, rfl⟩ <;> simp

theorem readResume_keeps_pollRegs {op : Instr} {wrap : Bytes → Val} {loc : Locals} {s t : State}
    (h : readResume op wrap loc s = .next t) : pollRegs t = pollRegs s := by
  rcases readResume_next h with ⟨e, -, rfl⟩ | ⟨blk, i, -, -, rfl⟩ | ⟨blk, -, -, hr⟩
  · simp
  · simp
  · simpa using readFrom_keeps_pollRegs hr

theorem queryUidJudged_keeps_pollRegs {u : Except Err Uid} {s t : State} (h : queryUidJudged u s = .next t) :
    pollRegs t = pollRegs s := by
  rw [queryUidJudged_eq] at h
  cases u <;> cases h <;> simp

/-- A stream write, issued or resuming, leaves them. -/
theorem writeOperation_keeps_pollRegs {op : Instr} {v : Val} {stream : Bytes} {s t : State}
    (h : linkOperation op s (fun u => gated v u (writeFrom op stream 0)) (writeResume op) = .next t) :
    pollRegs t = pollRegs s :=
  linkOperation_keeps_pollRegs h (fun _ hg => gated_keeps_pollRegs hg writeFrom_keeps_pollRegs)
    (fun _ => writeResume_keeps_pollRegs)

/-- A stream read, issued or resuming, leaves them. -/
theorem readOperation_keeps_pollRegs {op : Instr} {v : Val} {wrap : Bytes → Val} {s t : State}
    (h : linkOperation op s (fun u => gated v u (readFrom op wrap 0 [])) (readResume op wrap) = .next t) :
    pollRegs t = pollRegs s :=
  linkOperation_keeps_pollRegs h (fun _ hg => gated_keeps_pollRegs hg readFrom_keeps_pollRegs)
    (fun _ => readResume_keeps_pollRegs)

/-! ### The two instructions that write them -/

/-- A step of IS_CARD_PRESENT leaves them, or ends the probe with an answer (44_card_session.md R232). -/
theorem execIsCardPresent_next {s t : State} (h : execIsCardPresent s = .next t) :
    pollRegs t = pollRegs s ∨
    ∃ err u, pollRegs u = pollRegs s ∧ u.current = s.current ∧ t = endProbe err u := by
  rcases linkOperation_next h with ⟨-, -, hg⟩ | ⟨-, -, rfl⟩ | ⟨loc, -, hr⟩ | ⟨-, -, -, rfl⟩
  · split at hg
    next => cases hg; exact .inl (by simp [pollRegs])
    next => cases hg; exact .inr ⟨.notConnected, _, rfl, rfl, rfl⟩
  · exact .inl (pollRegs_setTask _ _ _)
  · cases hr; exact .inr ⟨_, _, pollRegs_readExactly 12 s, readExactly_current 12 s, rfl⟩
  · exact .inl rfl

/-- An answer to an agent other than POLL leaves them. -/
theorem endProbe_keeps_pollRegs (err : Err) {s : State} (ha : s.current ≠ .poll) :
    pollRegs (endProbe err s) = pollRegs s := by
  simp [endProbe, ha]

/-- HANDLER_DONE returns from the event, and only while Dispatching (45_poll_loop.md R266). -/
theorem execHandlerDone_next {s t : State} (h : execHandlerDone s = .next t) :
    s.current = .handler ∧ s.pollState = .dispatching ∧ taskOf s .handler = none ∧
      t = returnResult doneResult (eventReturn s) := by
  unfold execHandlerDone at h
  split at h
  next hc =>
    obtain ⟨hcur, hd⟩ := hc
    obtain ⟨htask, hrun⟩ := freeOperation_next h
    exact ⟨hcur, hd, hcur ▸ htask, by simpa using hrun.symm⟩
  next => cases h

/-- A BLOCK_WRITE is sent with 16 data bytes only (41_frame_codec.md R142). -/
theorem execBlockWrite_next {b : Byte} {d : Bytes} {s t : State} (h : execBlockWrite b d s = .next t) :
    d.length = 16 ∧ transmit { s with txBuf := frameBytes (.blockWrite b d) } = .next t := by
  rw [execBlockWrite, buildBlockWrite_eq] at h
  by_cases hd : d.length = 16
  · rw [if_pos hd] at h; exact ⟨hd, h⟩
  · rw [if_neg hd] at h; cases h

/-- Every other instruction leaves them, and so does IS_CARD_PRESENT run for an agent other than POLL. -/
theorem exec_keeps_pollRegs {i : Instr} {s t : State} (h : exec i s = .next t) (hdone : i ≠ .handlerDone)
    (hprobe : i = .isCardPresent → s.current ≠ .poll) : pollRegs t = pollRegs s := by
  cases i with
  | init tx rx =>
    rw [exec, execInit] at h
    exact linkOperation_keeps_pollRegs h (by rintro u ⟨⟩; exact pollRegs_endOperation _ _) (fun _ hr => by cases hr)
  | disconnect =>
    rw [exec, execDisconnect] at h
    exact linkOperation_keeps_pollRegs h (by rintro u ⟨⟩; exact pollRegs_endOperation _ _) (fun _ hr => by cases hr)
  | reconnect =>
    rw [exec, execReconnect] at h
    refine linkOperation_keeps_pollRegs h ?_ (fun _ hr => by cases hr)
    rintro u ⟨⟩
    rw [pollRegs_endOperation]
    split <;> rfl
  | registerHandler ref =>
    rw [exec, execRegisterHandler] at h
    obtain ⟨-, hr⟩ := freeOperation_next h
    cases hr; rfl
  | queryUid =>
    rw [exec, execQueryUid] at h
    refine linkOperation_keeps_pollRegs h
      (fun _ hg => gated_keeps_pollRegs hg ?_) (fun _ hr => ?_)
    · rintro ⟨⟩; exact pollRegs_awaitResponse _ _ _
    · exact (queryUidJudged_keeps_pollRegs hr).trans (pollRegs_readExactly 12 s)
  | isInitialized =>
    rw [exec, execIsInitialized] at h
    obtain ⟨-, hr⟩ := freeOperation_next h
    cases hr; rfl
  | isCardPresent =>
    rcases execIsCardPresent_next h with hk | ⟨err, u, hu, hcur, rfl⟩
    · exact hk
    · rw [endProbe_keeps_pollRegs err (hcur ▸ hprobe rfl), hu]
  | writeText text => exact writeOperation_keeps_pollRegs h
  | readText => exact readOperation_keeps_pollRegs h
  | writeBytes data => exact writeOperation_keeps_pollRegs h
  | readBytes => exact readOperation_keeps_pollRegs h
  | handlerDone => exact absurd rfl hdone
  | uidQuery => exact transmit_keeps_pollRegs (s := buildUidQuery s) h
  | blockRead b => exact transmit_keeps_pollRegs (s := buildBlockRead b s) h
  | blockWrite b d =>
    obtain ⟨-, hsend⟩ := execBlockWrite_next h
    exact (transmit_keeps_pollRegs hsend).trans rfl
  | uidRsp head uid chk => cases h; exact pollRegs_deliver _ _
  | ackRsp head ack mid chk => cases h; exact pollRegs_deliver _ _
  | readRsp head data chk => cases h; exact pollRegs_deliver _ _

/-! ### Frames -/

theorem decodeUidQueryTail_ok {frame tail : Bytes} {i : Instr} (h : decodeUidQueryTail frame tail = .ok i) :
    i = .uidQuery := by
  unfold decodeUidQueryTail at h
  split at h
  next =>
    iterate 3 replace h := ite_elim h (by simp)
    split at h <;> cases h
    rfl
  next => cases h

theorem decodeBlockReadTail_ok {frame tail : Bytes} {i : Instr} (h : decodeBlockReadTail frame tail = .ok i) :
    ∃ b, i = .blockRead b := by
  unfold decodeBlockReadTail at h
  split at h
  next =>
    iterate 2 replace h := ite_elim h (by simp)
    split at h <;> cases h
    exact ⟨_, rfl⟩
  next => cases h

theorem decodeBlockWriteTail_ok {frame tail : Bytes} {i : Instr} (h : decodeBlockWriteTail frame tail = .ok i) :
    ∃ b d, i = .blockWrite b d := by
  unfold decodeBlockWriteTail at h
  split at h
  next =>
    iterate 2 replace h := ite_elim h (by simp)
    split at h <;> cases h
    exact ⟨_, _, rfl⟩
  next => cases h

/-- A frame in TX_BUF that decodes is one of the three request frames (30_encoding.md R95). -/
theorem decodeRequest_isRequestFrame {frame : Bytes} {i : Instr} (h : decodeRequest frame = .ok i) :
    isRequestFrame i = true := by
  unfold decodeRequest at h
  split at h
  next =>
    split at h
    next => rw [decodeUidQueryTail_ok h]; rfl
    split at h
    next => obtain ⟨b, rfl⟩ := decodeBlockReadTail_ok h; rfl
    split at h
    next => obtain ⟨b, d, rfl⟩ := decodeBlockWriteTail_ok h; rfl
    next => cases h
  next => cases h

/-- The frame in TX_BUF goes out without them. -/
theorem stepFrame_keeps_pollRegs {s t : State} (h : stepFrame s = .next t) : pollRegs t = pollRegs s := by
  unfold stepFrame at h
  split at h
  next => cases h
  next i hi =>
    have hframe : isRequestFrame i = true := decodeRequest_isRequestFrame hi
    exact exec_keeps_pollRegs h (by rintro rfl; cases hframe) (by rintro rfl; cases hframe)

end Sys2Proof.Machine
end

