-- ==== Sys2Proof/Proofs/Busy.lean ====
section
/-!
BUSY is 1 exactly while POLL_STATE is Dispatching (10_state.md R35): what each kind of step does to that, and O56.
-/

namespace Sys2Proof.Machine

/-- BUSY agrees with POLL_STATE (10_state.md R35). -/
def BusyAgrees (s : State) : Prop := s.busy = true ↔ s.pollState = .dispatching

/-- It speaks of two of the poll engine's registers alone. -/
theorem busyAgrees_congr {s t : State} (h : pollRegs t = pollRegs s) (hs : BusyAgrees s) : BusyAgrees t := by
  unfold BusyAgrees
  rw [busy_of_pollRegs h, pollState_of_pollRegs h]
  exact hs

theorem not_busy_of_not_dispatching {s : State} (hs : BusyAgrees s) (h : s.pollState ≠ .dispatching) :
    s.busy = false := by
  simpa using mt hs.mp h

theorem busyAgrees_dispatch (s : State) : BusyAgrees (dispatch s) := by simp [BusyAgrees]

theorem busyAgrees_eventReturn (s : State) : BusyAgrees (eventReturn s) := by simp [BusyAgrees]

/-- The end of a detection enters Dispatching and sets BUSY, or goes Idle with BUSY 0 as it was (45_poll_loop.md
R263). -/
theorem busyAgrees_detectAnswered (present : Bool) {s : State} (h : s.busy = false) :
    BusyAgrees (detectAnswered present s) := by
  cases present with
  | true => exact busyAgrees_dispatch s
  | false => simp [BusyAgrees, detectAnswered, h]

/-- A step of POLL's detection, run while Detecting, keeps it. -/
theorem execIsCardPresent_keeps_busyAgrees {s t : State} (hs : BusyAgrees s) (hd : s.pollState ≠ .dispatching)
    (h : execIsCardPresent s = .next t) : BusyAgrees t := by
  rcases execIsCardPresent_next h with hk | ⟨err, u, hu, -, rfl⟩
  · exact busyAgrees_congr hk hs
  · unfold endProbe
    split
    next =>
      have hbusy : u.busy = false := (busy_of_pollRegs hu).trans (not_busy_of_not_dispatching hs hd)
      exact busyAgrees_detectAnswered _ (by simpa using hbusy)
    next => exact busyAgrees_congr ((pollRegs_endOperation _ _).trans hu) hs

/-- Every step of agent POLL keeps it. -/
theorem pollStep_keeps_busyAgrees {s t : State} (hs : BusyAgrees s) (h : pollStep s = .next t) : BusyAgrees t := by
  rcases pollStep_next h with ⟨-, rfl⟩ | ⟨-, hidle, -, -, hp⟩ | ⟨-, -, -, -, rfl⟩ | ⟨-, hdet, -, hp⟩ | ⟨-, rfl⟩
  · exact hs
  · have hbusy : s.busy = false := not_busy_of_not_dispatching hs (by simp [hidle])
    exact execIsCardPresent_keeps_busyAgrees (by simp [BusyAgrees, hbusy]) (by simp) hp
  · exact hs
  · exact execIsCardPresent_keeps_busyAgrees hs (by simp [hdet]) hp
  · exact hs

/-- Every instruction keeps it, IS_CARD_PRESENT where it is not agent POLL that runs it. -/
theorem exec_keeps_busyAgrees {i : Instr} {s t : State} (hprobe : i = .isCardPresent → s.current ≠ .poll)
    (hs : BusyAgrees s) (h : exec i s = .next t) : BusyAgrees t := by
  by_cases hdone : i = .handlerDone
  · subst hdone
    obtain ⟨-, -, -, rfl⟩ := execHandlerDone_next h
    exact busyAgrees_eventReturn s
  · exact busyAgrees_congr (exec_keeps_pollRegs h hdone hprobe) hs

/-- An agent that issues IS_CARD_PRESENT is not POLL (00_scope.md R10, 60_exceptions.md R319). -/
theorem issuer_of_probe_ne_poll {i : Instr} {s : State} {a : Agent} (hissue : i = .handlerDone ∨ canIssue s a = true)
    (hi : i = .isCardPresent) : a ≠ .poll := by
  rintro rfl
  simp [hi, canIssue] at hissue

/-- Every move of the environment keeps it. -/
theorem stepEvent_keeps_busyAgrees {e : Event} {s t : State} (hs : BusyAgrees s) (h : stepEvent e s = .next t) :
    BusyAgrees t := by
  cases e with
  | request a op args =>
    rcases stepRequest_next h with rfl | ⟨i, -, -, hissue, hexec⟩
    · exact hs
    · exact exec_keeps_busyAgrees (s := { s with current := a }) (issuer_of_probe_ne_poll hissue) hs hexec
  | run a =>
    rcases stepRun_next h with ⟨-, hpoll⟩ | rfl | ⟨task, ha, -, hexec⟩
    · exact pollStep_keeps_busyAgrees (s := { s with current := .poll }) hs hpoll
    · exact hs
    · exact exec_keeps_busyAgrees (s := { s with current := a }) (fun _ => ha) hs hexec
  | receive bytes =>
    simp only [stepEvent, stepReceive_eq] at h
    split at h
    next => cases h; exact busyAgrees_congr (pollRegs_deliver bytes s) hs
    next => cases h; exact hs
  | elapse d => cases h; exact hs
  | setCard card =>
    simp only [stepEvent, stepCard] at h
    split at h <;> cases h <;> exact hs

/-- Every step keeps it. -/
theorem step_keeps_busyAgrees {s t : State} (hs : BusyAgrees s) (h : step s = .next t) : BusyAgrees t := by
  by_cases htx : s.txBuf = []
  · obtain ⟨e, evs, n, hstep⟩ := step_event htx
    exact stepEvent_keeps_busyAgrees (s := { s with events := evs, drawn := n }) hs (hstep ▸ h)
  · rw [step_frame htx] at h
    exact busyAgrees_congr (stepFrame_keeps_pollRegs h) hs

/-- Between two states where BUSY agrees with POLL_STATE, it changes exactly on a move to or from Dispatching. -/
theorem busy_ne_iff {s t : State} (hs : BusyAgrees s) (ht : BusyAgrees t) :
    t.busy ≠ s.busy ↔
      ((s.pollState = .dispatching ∨ t.pollState = .dispatching) ∧ t.pollState ≠ s.pollState) := by
  have hbusy : t.busy = s.busy ↔ (t.pollState = .dispatching ↔ s.pollState = .dispatching) := by
    exact Bool.eq_iff_iff.trans (iff_congr ht hs)
  rw [Ne, hbusy]
  by_cases hd : s.pollState = .dispatching
  · simp [hd]
  · simp only [hd, iff_false, not_not, false_or]
    exact ⟨fun h => ⟨h, h ▸ Ne.symm hd⟩, And.left⟩

/-- Settles O56: the agreement of BUSY with POLL_STATE is an invariant of the step, and the second clause follows from
it before and after the step. -/
theorem busyExactlyWhileDispatching : Obligations.BusyExactlyWhileDispatching := by
  refine ⟨by decide, fun s t hs h => ?_⟩
  have ht : BusyAgrees t := step_keeps_busyAgrees hs h
  exact ⟨ht, busy_ne_iff hs ht⟩

end Sys2Proof.Machine
end

