-- ==== Sys2Proof/Proofs/Refusals.lean ====
section
/-!
The refusals of 30_encoding.md R102, and O4: an op code outside 0x01..0x0C, and HANDLER_DONE out of place.
-/

namespace Sys2Proof

/-- The op codes that spell no operation: those other than 0x01..0x0C (30_encoding.md R102). -/
def UnassignedOpcode (op : Byte) : Prop := op = 0#8 ∨ 12 < op.toNat

/-- An unassigned op code is none of the codes that the decoder compares it with. -/
theorem UnassignedOpcode.ne {op k : Byte} (h : UnassignedOpcode op) (hpos : 0 < k.toNat) (hle : k.toNat ≤ 12) :
    op ≠ k := by
  rintro rfl
  rcases h with rfl | hgt
  · exact absurd hpos (by decide)
  · omega

/-- It spells no operation, whatever its operands. -/
theorem decodeHost_of_unassigned {op : Byte} (h : UnassignedOpcode op) (args : List HostVal) :
    decodeHost op args = .error (.unknownOpcode op) := by
  simp (disch := decide) only [decodeHost, h.ne, if_false]

end Sys2Proof

namespace Sys2Proof.Machine

/-- A request that spells no operation is refused with the decoder's reason. -/
theorem stepRequest_undecodable {a : Agent} {op : Byte} {args : List HostVal} {e : DecodeError} {s : State}
    (hidle : taskOf s a = none) (he : decode (.host op args) = .error e) :
    stepRequest a op args s = .refused (.undecodable e) := by
  simp [stepRequest, hidle, he]

/-- HANDLER_DONE has a meaning for agent HANDLER while Dispatching only (30_encoding.md R102). -/
theorem execHandlerDone_outOfPlace {s : State} (h : s.current ≠ .handler ∨ s.pollState ≠ .dispatching) :
    execHandlerDone s = .refused .handlerDoneOutOfPlace :=
  if_neg (not_and_or.mpr h)

/-- Settles O4: the decoder's comparisons all fail, the step refuses what does not decode, and HANDLER_DONE tests its
place first. -/
theorem unassignedOpcodesAndMisplacedDoneAreRefused : Obligations.UnassignedOpcodesAndMisplacedDoneAreRefused := by
  refine ⟨fun op args hop => decodeHost_of_unassigned hop args, fun s a op args rest hop htx hev hidle => ?_,
    fun s h => execHandlerDone_outOfPlace h⟩
  rw [step_placed htx hev]
  have hidle' : taskOf { s with events := rest } a = none := (taskOf_congr rfl rfl rfl a).trans hidle
  exact stepRequest_undecodable hidle' (decodeHost_of_unassigned hop args)

end Sys2Proof.Machine
end

