-- ==== Sys2Proof/Proofs/ResponseBytes.lean ====
section
/-!
The bytes of a response that the block examines (30_encoding.md R94), and O11. Each parser's verdict is a function of
one field and of the checksum's test, and a resumed operation sees a response through its parser alone.
-/

namespace Sys2Proof.Machine

/-! ### What each parser examines (41_frame_codec.md R143 to R146) -/

theorem uidField_of_length {r : Bytes} (h : r.length = 12) : uidField r = some (uidAt r) := by
  match r, h with
  | [_, _, _, _, _, _, _, _, _, _, _, _], _ => rfl

theorem ackField_of_length {r : Bytes} (h : r.length = 8) : ackField r = some (r.getD 4 0#8) := by
  match r, h with
  | [_, _, _, _, _, _, _, _], _ => rfl

theorem dataField_of_length {r : Bytes} (h : r.length = 22) : dataField r = some ((r.drop 5).take 16) := if_pos h

theorem parseUidRsp_of_length (v : Bool) {r : Bytes} (h : r.length = 12) :
    parseUidRsp v (some r) = if checksumAccepted v r then .ok (uidAt r) else .error .checksum := by
  simp only [parseUidRsp, uidField_of_length h]

theorem parseWriteAck_of_length (v : Bool) {r : Bytes} (h : r.length = 8) :
    parseWriteAck v (some r) =
      if checksumAccepted v r then if r.getD 4 0#8 = 0x00#8 then .ok () else .error .writeRejected
      else .error .checksum := by
  simp only [parseWriteAck, ackField_of_length h]

theorem parseReadRsp_of_length (v : Bool) {r : Bytes} (h : r.length = 22) :
    parseReadRsp v (some r) = if checksumAccepted v r then .ok ((r.drop 5).take 16) else .error .checksum := by
  simp only [parseReadRsp, dataField_of_length h]

/-- With validation off the checksum policy does not look at the response (41_frame_codec.md R146). -/
theorem checksumAccepted_congr {v : Bool} {r q : Bytes} (h : v = true → verifyChecksum r = verifyChecksum q) :
    checksumAccepted v r = checksumAccepted v q := by
  cases v with
  | false => rfl
  | true => exact h rfl

/-! ### Resuming with a response in RX_FIFO -/

/-- A response of the expected length is taken whole and leaves RX_FIFO empty, whatever its bytes. -/
theorem readExactly_received (s : State) {n : Nat} {r : Bytes} (h : r.length = n) :
    readExactly n { s with rxFifo := r } = (some r, { s with rxFifo := [] }) := by
  rw [readExactly_eq, if_pos h]

/-- A link operation whose settle delay has ended does the same with two responses when its resumption does. -/
theorem linkOperation_received_congr {op : Instr} {s : State} {granted : State → Out}
    {resume : Locals → State → Out} {loc : Locals} {r q : Bytes} (hs : Settled s op loc)
    (h : resume loc { s with rxFifo := r } = resume loc { s with rxFifo := q }) :
    linkOperation op { s with rxFifo := r } granted resume =
      linkOperation op { s with rxFifo := q } granted resume := by
  have hsettled (f : Bytes) : Settled { s with rxFifo := f } op loc :=
    ⟨(taskOf_congr rfl rfl rfl _).trans hs.1, hs.2⟩
  rw [linkOperation_resumes (hsettled r), linkOperation_resumes (hsettled q), h]

section SameVerdict

variable {s : State} {r q : Bytes}

/-- QUERY_UID sees a UID response through its verdict alone. -/
theorem execQueryUid_received_congr {loc : Locals} (hs : Settled s .queryUid loc) (hr : r.length = 12)
    (hq : q.length = 12) (h : parseUidRsp s.cfg.validateRx (some r) = parseUidRsp s.cfg.validateRx (some q)) :
    execQueryUid { s with rxFifo := r } = execQueryUid { s with rxFifo := q } := by
  refine linkOperation_received_congr hs ?_
  simp only [readExactly_received s hr, readExactly_received s hq, h]

/-- IS_CARD_PRESENT, for a host agent or for POLL, sees it through its verdict alone. -/
theorem execIsCardPresent_received_congr {loc : Locals} (hs : Settled s .isCardPresent loc) (hr : r.length = 12)
    (hq : q.length = 12) (h : parseUidRsp s.cfg.validateRx (some r) = parseUidRsp s.cfg.validateRx (some q)) :
    execIsCardPresent { s with rxFifo := r } = execIsCardPresent { s with rxFifo := q } := by
  refine linkOperation_received_congr hs ?_
  simp only [readExactly_received s hr, readExactly_received s hq, h]

/-- WRITE_STREAM sees an acknowledgement through its verdict alone. -/
theorem writeResume_congr (op : Instr) (loc : Locals) (hr : r.length = 8) (hq : q.length = 8)
    (h : parseWriteAck s.cfg.validateRx (some r) = parseWriteAck s.cfg.validateRx (some q)) :
    writeResume op loc { s with rxFifo := r } = writeResume op loc { s with rxFifo := q } := by
  simp only [writeResume, readExactly_received s hr, readExactly_received s hq, h]

/-- READ_STREAM sees a block's response through its verdict alone. -/
theorem readResume_congr (op : Instr) (wrap : Bytes → Val) (loc : Locals) (hr : r.length = 22) (hq : q.length = 22)
    (h : parseReadRsp s.cfg.validateRx (some r) = parseReadRsp s.cfg.validateRx (some q)) :
    readResume op wrap loc { s with rxFifo := r } = readResume op wrap loc { s with rxFifo := q } := by
  simp only [readResume, readExactly_received s hr, readExactly_received s hq, h]

end SameVerdict

/-- Settles O11: two such responses have the same verdict, so the operation that resumes with them cannot tell them
apart. -/
theorem unexaminedResponseBytesChangeNothing : Obligations.UnexaminedResponseBytesChangeNothing := by
  intro s i loc r q hchk hs
  have haccept : checksumAccepted s.cfg.validateRx r = checksumAccepted s.cfg.validateRx q :=
    checksumAccepted_congr hchk
  refine ⟨fun hi hr hq huid => ?_, fun hi hr hq hack => ?_, fun hi hr hq hdata => ?_⟩
  · have hverdict : parseUidRsp s.cfg.validateRx (some r) = parseUidRsp s.cfg.validateRx (some q) := by
      rw [parseUidRsp_of_length _ hr, parseUidRsp_of_length _ hq, haccept, huid]
    rcases hi with rfl | rfl
    · exact execQueryUid_received_congr hs hr hq hverdict
    · exact execIsCardPresent_received_congr hs hr hq hverdict
  · have hverdict : parseWriteAck s.cfg.validateRx (some r) = parseWriteAck s.cfg.validateRx (some q) := by
      rw [parseWriteAck_of_length _ hr, parseWriteAck_of_length _ hq, haccept, hack]
    rcases hi with ⟨data, rfl⟩ | ⟨text, rfl⟩ <;>
      exact linkOperation_received_congr hs (writeResume_congr _ loc hr hq hverdict)
  · have hverdict : parseReadRsp s.cfg.validateRx (some r) = parseReadRsp s.cfg.validateRx (some q) := by
      rw [parseReadRsp_of_length _ hr, parseReadRsp_of_length _ hq, haccept, hdata]
    rcases hi with rfl | rfl <;>
      exact linkOperation_received_congr hs (readResume_congr _ _ loc hr hq hverdict)

end Sys2Proof.Machine
end


-- ==== Sys2Proof/Proofs/ChecksumLaws.lean ====
section
/-!
The algebra of the checksum (40_checksum.md R120 to R123), O6 and O7. XOR is commutative and each byte cancels itself,
so the fold sees a frame's bytes without their order, and flipping bits of one byte flips the same bits of the
checksum.
-/

namespace Sys2Proof.Machine

/-! ### The fold -/

/-- The fold does not see the order of the bytes. -/
theorem xorFold_perm {f g : Bytes} (h : f.Perm g) : xorFold f = xorFold g :=
  have : RightCommutative fun acc b : Byte => acc ^^^ b := ⟨fun _ _ _ => by ac_rfl⟩
  h.foldl_eq 0#8

/-- A 0x00 byte does not change the fold. -/
theorem xorFold_insert_zero (f g : Bytes) : xorFold (f ++ [0x00#8] ++ g) = xorFold (f ++ g) := by simp

/-- An error `e` in one byte comes out of the fold. -/
theorem xorFold_flip (f g : Bytes) (x e : Byte) :
    xorFold (f ++ [x ^^^ e] ++ g) = xorFold (f ++ [x] ++ g) ^^^ e := by
  simp only [xorFold_append, xorFold_cons, xorFold_nil, BitVec.xor_zero]
  ac_rfl

/-- Two equal errors cancel. -/
theorem xorFold_flip_pair (f g h : Bytes) (x y e : Byte) :
    xorFold (f ++ [x ^^^ e] ++ g ++ [y ^^^ e] ++ h) = xorFold (f ++ [x] ++ g ++ [y] ++ h) := by
  have hfirst : xorFold (f ++ [x ^^^ e] ++ (g ++ [y] ++ h)) = xorFold (f ++ [x] ++ (g ++ [y] ++ h)) ^^^ e :=
    xorFold_flip f _ x e
  simp only [← List.append_assoc] at hfirst
  rw [xorFold_flip, hfirst, BitVec.xor_assoc, BitVec.xor_self, BitVec.xor_zero]

/-! ### Computing and verifying -/

/-- A last byte is the checksum of the bytes before it exactly when all of them XOR to 0xFF. -/
theorem eq_computeChecksum_iff_xorFold (f : Bytes) (c : Byte) :
    c = computeChecksum (f ++ [c]) ↔ xorFold (f ++ [c]) = 0xFF#8 := by
  rw [computeChecksum_append, xorFold_append, xorFold_cons, xorFold_nil, BitVec.xor_zero, not8]
  constructor
  · intro hc
    rw [hc, ← BitVec.xor_assoc, BitVec.xor_self, BitVec.zero_xor]
  · intro hall
    rw [← hall, ← BitVec.xor_assoc, BitVec.xor_self, BitVec.zero_xor]

/-- VERIFY_CHECKSUM of a frame given by its last byte and the rest (40_checksum.md R122). -/
theorem verifyChecksum_append_iff (f : Bytes) (c : Byte) :
    verifyChecksum (f ++ [c]) = true ↔ c = computeChecksum (f ++ [c]) := by simp

/-- An error in one byte before the checksum comes out of the checksum. -/
theorem computeChecksum_flip (f g : Bytes) (x e c : Byte) :
    computeChecksum (f ++ [x ^^^ e] ++ g ++ [c]) = computeChecksum (f ++ [x] ++ g ++ [c]) ^^^ e := by
  rw [computeChecksum_append, computeChecksum_append, xorFold_flip, not8_xor]

/-- A single-byte error is detected: the checksum moves away from the last byte. -/
theorem verifyChecksum_flip (f g : Bytes) (x : Byte) {e : Byte} (c : Byte) (he : e ≠ 0#8)
    (h : verifyChecksum (f ++ [x] ++ g ++ [c]) = true) : verifyChecksum (f ++ [x ^^^ e] ++ g ++ [c]) = false := by
  rw [verifyChecksum_append_iff] at h
  rw [← Bool.not_eq_true, verifyChecksum_append_iff, computeChecksum_flip, ← h]
  intro hsame
  exact he ((BitVec.xor_right_inj c).mp (hsame.symm.trans BitVec.xor_zero.symm))

/-- Two equal errors before the checksum are not detected. -/
theorem verifyChecksum_flip_pair (f g h : Bytes) (x y e c : Byte) :
    verifyChecksum (f ++ [x ^^^ e] ++ g ++ [y ^^^ e] ++ h ++ [c]) =
      verifyChecksum (f ++ [x] ++ g ++ [y] ++ h ++ [c]) := by
  rw [verifyChecksum_append, verifyChecksum_append, xorFold_flip_pair]

/-! ### Filling -/

/-- FILL_CHECKSUM keeps the length, also of the empty sequence. -/
theorem length_fillChecksum (f : Bytes) : (fillChecksum f).length = f.length := by
  rcases f.eq_nil_or_concat' with rfl | ⟨body, c, rfl⟩
  · rfl
  · rw [fillChecksum_append, List.length_append, List.length_append]; rfl

/-- FILL_CHECKSUM keeps every byte but the last. -/
theorem dropLast_fillChecksum (f : Bytes) : (fillChecksum f).dropLast = f.dropLast := by
  rcases f.eq_nil_or_concat' with rfl | ⟨body, c, rfl⟩
  · rfl
  · rw [fillChecksum_append, List.dropLast_concat, List.dropLast_concat]

/-- The last byte becomes the checksum of the frame as it was given. -/
theorem getLast?_fillChecksum {f : Bytes} (hf : f ≠ []) : (fillChecksum f).getLast? = some (computeChecksum f) := by
  obtain ⟨body, c, rfl⟩ := f.eq_nil_or_concat'.resolve_left hf
  rw [fillChecksum_append, computeChecksum_append, List.getLast?_concat]

/-- The checksum is a function of the bytes before its slot, so filling the slot leaves it. -/
theorem computeChecksum_fillChecksum (f : Bytes) : computeChecksum (fillChecksum f) = computeChecksum f := by
  rw [computeChecksum, dropLast_fillChecksum, computeChecksum]

/-- A filled frame verifies. -/
theorem verifyChecksum_fillChecksum {f : Bytes} (hf : f ≠ []) : verifyChecksum (fillChecksum f) = true := by
  rw [verifyChecksum, getLast?_fillChecksum hf, computeChecksum_fillChecksum, beq_self_eq_true]

/-- Filling twice is filling once. -/
theorem fillChecksum_idem (f : Bytes) : fillChecksum (fillChecksum f) = fillChecksum f := by
  rcases f.eq_nil_or_concat' with rfl | ⟨body, c, rfl⟩
  · rfl
  · rw [fillChecksum_append, fillChecksum_append]

/-! ### Built frames -/

/-- BUILD_BLOCK_WRITE answers only with a frame that FILL_CHECKSUM has filled (41_frame_codec.md R142). -/
theorem buildBlockWrite_ok {b : Byte} {d : Bytes} {s t : State} (h : buildBlockWrite b d s = .ok t) :
    t = fillTxBuf { s with txBuf := [0x01#8, 0x17#8, 0xA4#8, 0x20#8, b, 0x01#8] ++ d ++ [0x00#8] } := by
  unfold buildBlockWrite at h
  split at h <;> cases h
  rfl

/-- The source's property of the builders: each leaves a frame in TX_BUF that verifies (40_checksum.md R123). -/
theorem verifyChecksum_built (s : State) (b : Byte) :
    verifyChecksum (buildUidQuery s).txBuf = true ∧ verifyChecksum (buildBlockRead b s).txBuf = true ∧
    ∀ (d : Bytes) (t : State), buildBlockWrite b d s = .ok t → verifyChecksum t.txBuf = true := by
  refine ⟨verifyChecksum_fillChecksum (List.cons_ne_nil _ _), verifyChecksum_fillChecksum (List.cons_ne_nil _ _),
    fun d t h => ?_⟩
  rw [buildBlockWrite_ok h, fillTxBuf_txBuf]
  exact verifyChecksum_fillChecksum (List.cons_ne_nil _ _)

/-! ### The obligations -/

/-- Settles O6: the laws of the fold, carried to the checksum, which looks at the bytes before its slot alone. -/
theorem checksumLaws : Obligations.ChecksumLaws := by
  refine ⟨eq_computeChecksum_iff_xorFold, fun f g c hperm => ?_, fun f g c => ?_, computeChecksum_flip,
    fun f g x e c he h => verifyChecksum_flip f g x c he h,
    fun f g h x y e c hok => (verifyChecksum_flip_pair f g h x y e c).trans hok, verifyChecksum_built⟩
  · rw [computeChecksum_append, computeChecksum_append, xorFold_perm hperm]
  · rw [computeChecksum_append, computeChecksum_append, xorFold_insert_zero]

/-- Settles O7: what FILL_CHECKSUM keeps and what it writes, from its lemmas, and the example computed. -/
theorem fillChecksumWritesTheLastByteOnly : Obligations.FillChecksumWritesTheLastByteOnly :=
  ⟨fun _ => rfl,
    fun f hf => ⟨length_fillChecksum f, dropLast_fillChecksum f, getLast?_fillChecksum hf, fillChecksum_idem f,
      verifyChecksum_fillChecksum hf⟩,
    by decide⟩

end Sys2Proof.Machine
end


-- ==== Sys2Proof/Proofs/BuiltFrames.lean ====
section
/-!
The frames of the three builders (41_frame_codec.md R140 to R142, R147), and O8. All three have one shape: the header
`01 len op 20 b 01`, a body, and the slot that FILL_CHECKSUM fills; filling keeps the length and every byte before
the slot.
-/

namespace Sys2Proof.Machine

/-- A frame verifies when its last byte is the complement of the XOR of the others (30_encoding.md R89). -/
theorem verifyChecksum_iff_getLast? (f : Bytes) :
    verifyChecksum f = true ↔ f.getLast? = some (not8 (xorFold f.dropLast)) := beq_iff_eq

/-- BUILD_BLOCK_WRITE answers only for 16 data bytes (41_frame_codec.md R142). -/
theorem length_of_buildBlockWrite_ok {b : Byte} {d : Bytes} {s t : State} (h : buildBlockWrite b d s = .ok t) :
    d.length = 16 := by
  by_contra hne
  rw [buildBlockWrite_eq, if_neg hne] at h
  cases h

/-- The shape the builders share: a filled frame whose length byte counts the six header bytes, the body and the
checksum slot. -/
theorem filledFrame_constants {len : Byte} (op b : Byte) {body f : Bytes} (hlen : len.toNat = 6 + body.length + 1)
    (hf : f = fillChecksum ([0x01#8, len, op, 0x20#8, b, 0x01#8] ++ body ++ [0x00#8])) :
    f.getLast? = some (not8 (xorFold f.dropLast)) ∧ f.length = (f.getD 1 0#8).toNat ∧
    f.getD 0 0#8 = 0x01#8 ∧ f.getD 3 0#8 = 0x20#8 ∧ f.getD 5 0#8 = 0x01#8 := by
  have hcheck : verifyChecksum f = true := hf ▸ verifyChecksum_fillChecksum (List.cons_ne_nil _ _)
  have hlength : f.length = len.toNat := by
    rw [hf, length_fillChecksum, List.length_append, List.length_append, hlen]; rfl
  rw [fillChecksum_append] at hf
  have hlenByte : f.getD 1 0#8 = len := by rw [hf]; rfl
  refine ⟨(verifyChecksum_iff_getLast? f).mp hcheck, hlenByte ▸ hlength, ?_⟩
  rw [hf]
  exact ⟨rfl, rfl, rfl⟩

/-- Settles O8: the three builders fill frames of the shared shape, with length bytes 8, 8 and 23. -/
theorem builtFramesHaveTheirConstants : Obligations.BuiltFramesHaveTheirConstants := by
  rintro s f (huid | ⟨b, hread⟩ | ⟨b, d, t, hok, hwrite⟩)
  · exact filledFrame_constants (len := 0x08#8) (body := [0x00#8]) 0xA1#8 0x00#8 rfl huid
  · exact filledFrame_constants (len := 0x08#8) (body := [0x00#8]) 0xA3#8 b rfl hread
  · have hlen : (0x17#8 : Byte).toNat = 6 + d.length + 1 := by rw [length_of_buildBlockWrite_ok hok]; rfl
    rw [buildBlockWrite_ok hok, fillTxBuf_txBuf] at hwrite
    exact filledFrame_constants 0xA4#8 b hlen hwrite

end Sys2Proof.Machine
end


-- ==== Sys2Proof/Proofs/ConnectionControl.lean ====
section
/-!
INIT, DISCONNECT and RECONNECT (42_transport.md R172, R173, R180), and O12 and O14. Each takes the lock, writes the
connection registers CONN, CFG_VALID, CFG_TX and CFG_RX alone, and gives the lock back in the same atomic step.
-/

namespace Sys2Proof.Machine

/-! ### Ending an operation -/

/-- An agent whose operation has just ended may issue any other. -/
theorem ready_endOperation (r : Result) (s : State) (i : Instr) : Ready (endOperation r s) i :=
  .inl (by rw [endOperation_current, taskOf_endOperation_self])

/-- An operation that takes a free lock, writes the connection registers and ends has changed nothing else. -/
theorem endOperation_connection {s : State} (hl : s.linkLock = .free) (r : Result) (conn valid : Bool)
    (tx rx : PinId) :
    endOperation r { s with linkLock := .held s.current, conn := conn, cfgValid := valid, cfgTx := tx, cfgRx := rx } =
      { setTask s s.current none with
        conn := conn, cfgValid := valid, cfgTx := tx, cfgRx := rx, returns := (s.current, r) :: s.returns } := by
  cases hc : s.current <;> simp [endOperation, returnResult, release, setTask, hl, hc]

/-! ### The three operations, once granted the lock -/

theorem exec_init_granted {tx rx : PinId} {s : State} (hr : Ready s (.init tx rx)) (hl : s.linkLock = .free) :
    exec (.init tx rx) s =
      .next (endOperation doneResult (configure tx rx s.baud { s with linkLock := .held s.current })) := by
  simp only [exec, execInit, linkOperation_granted hr hl]

theorem exec_disconnect_granted {s : State} (hr : Ready s .disconnect) (hl : s.linkLock = .free) :
    exec .disconnect s = .next (endOperation doneResult { s with linkLock := .held s.current, conn := false }) := by
  simp only [exec, execDisconnect, linkOperation_granted hr hl]

/-- CONFIGURE with the pins already recorded writes CONN alone. -/
theorem configure_recorded_pins (s : State) :
    (if s.cfgValid then configure s.cfgTx s.cfgRx s.baud s else s) = { s with conn := s.cfgValid || s.conn } := by
  cases hv : s.cfgValid with
  | true => simp [configure, ← hv]
  | false => rw [if_neg Bool.false_ne_true, Bool.false_or, ← hv]

theorem exec_reconnect_granted {s : State} (hr : Ready s .reconnect) (hl : s.linkLock = .free) :
    exec .reconnect s =
      .next (endOperation doneResult { s with linkLock := .held s.current, conn := s.cfgValid || s.conn }) := by
  simp only [exec, execReconnect, linkOperation_granted hr hl, configure_recorded_pins]

/-- INIT, then DISCONNECT, then RECONNECT by one agent: the pins of that INIT are in use again. -/
theorem reconnect_after_init_disconnect {tx rx : PinId} {s t u : State} (hr : Ready s (.init tx rx))
    (hl : s.linkLock = .free) (ht : exec (.init tx rx) s = .next t) (hu : exec .disconnect t = .next u) :
    ∃ v, exec .reconnect u = .next v ∧ v.conn = true ∧ v.cfgTx = tx ∧ v.cfgRx = rx := by
  rw [exec_init_granted hr hl] at ht
  cases ht
  rw [exec_disconnect_granted (ready_endOperation _ _ _) (endOperation_linkLock _ _)] at hu
  cases hu
  exact ⟨_, exec_reconnect_granted (ready_endOperation _ _ _) (endOperation_linkLock _ _), by simp⟩

/-! ### The obligations -/

/-- Settles O14: RECONNECT writes CONN alone, by `configure_recorded_pins`; at reset CFG_VALID is 0, and DISCONNECT
keeps what INIT recorded. -/
theorem reconnectNeedsPins : Obligations.ReconnectNeedsPins := by
  refine ⟨fun s hr hl => ?granted, fun s a hr hl => ?waits, ⟨_, exec_reconnect_granted (.inl rfl) rfl, rfl⟩,
    fun _ _ _ _ _ => reconnect_after_init_disconnect⟩
  case granted =>
    rw [exec_reconnect_granted hr hl, endOperation_connection hl]
    simp [doneResult]
  case waits => simp only [exec, execReconnect, linkOperation_waits hr hl]

/-- Settles O12: INIT configures while it holds the lock, and waits for it otherwise. -/
theorem initRecordsPinsAndConnects : Obligations.InitRecordsPinsAndConnects := by
  refine ⟨fun tx rx s hr hl => ?granted, fun tx rx s a hr hl => ?waits,
    fun tx rx => ⟨_, exec_init_granted (.inl rfl) rfl, rfl⟩⟩
  case granted => rw [exec_init_granted hr hl, configure, endOperation_connection hl, doneResult]
  case waits => simp only [exec, execInit, linkOperation_waits hr hl]

end Sys2Proof.Machine
end


-- ==== Sys2Proof/Proofs/ConnUnderLock.lean ====
section
/-!
While LINK_LOCK is held no step changes CONN (42_transport.md R183): only INIT, DISCONNECT and RECONNECT write it, each
in the atomic step in which it is granted the lock.
-/

namespace Sys2Proof.Machine

/-! ### Updates that leave CONN -/

@[simp] theorem deliver_conn (bytes : Bytes) (s : State) : (deliver bytes s).conn = s.conn := by rw [deliver_eq]

@[simp] theorem linkWrite_conn (s : State) : (linkWrite s).conn = s.conn := by
  unfold linkWrite partnerReacts
  cases s.partner with
  | oracle => rfl
  | sim card => exact deliver_conn _ _

@[simp] theorem readExactly_conn (n : Nat) (s : State) : (readExactly n s).2.conn = s.conn := by
  rw [readExactly_eq]; split <;> rfl

@[simp] theorem detectAnswered_conn (present : Bool) (s : State) : (detectAnswered present s).conn = s.conn := by
  cases present <;> rfl

@[simp] theorem endProbe_conn (err : Err) (s : State) : (endProbe err s).conn = s.conn := by
  unfold endProbe; split <;> simp

/-! ### Shared operations that leave CONN -/

/-- A link operation that finds the lock held waits or goes on after its settle delay: what it does when granted the
lock plays no part. -/
theorem linkOperation_keeps_conn {op : Instr} {s t : State} {granted : State → Out} {resume : Locals → State → Out}
    (h : linkOperation op s granted resume = .next t) (hl : s.linkLock ≠ .free)
    (hresume : ∀ loc, resume loc s = .next t → t.conn = s.conn) : t.conn = s.conn := by
  rcases linkOperation_next h with ⟨-, hfree, -⟩ | ⟨-, -, rfl⟩ | ⟨loc, -, hr⟩ | ⟨-, -, -, rfl⟩
  · exact absurd hfree hl
  · exact setTask_conn _ _ _
  · exact hresume loc hr
  · rfl

theorem transmit_keeps_conn {s t : State} (h : transmit s = .next t) : t.conn = s.conn := by
  obtain ⟨-, -, rfl⟩ := transmit_next h
  simp

theorem writeResume_keeps_conn {op : Instr} {loc : Locals} {s t : State} (h : writeResume op loc s = .next t) :
    t.conn = s.conn := by
  rcases writeResume_next h with ⟨e, -, rfl⟩ | ⟨-, hw⟩
  · simp
  · rcases writeFrom_next hw with ⟨-, rfl⟩ | ⟨b, -, rfl⟩ <;> simp

theorem readResume_keeps_conn {op : Instr} {wrap : Bytes → Val} {loc : Locals} {s t : State}
    (h : readResume op wrap loc s = .next t) : t.conn = s.conn := by
  rcases readResume_next h with ⟨e, -, rfl⟩ | ⟨blk, i, -, -, rfl⟩ | ⟨blk, -, -, hr⟩
  · simp
  · simp
  · rcases readFrom_next hr with ⟨-, rfl⟩ | ⟨b, -, rfl⟩ <;> simp

theorem queryUidJudged_keeps_conn {u : Except Err Uid} {s t : State} (h : queryUidJudged u s = .next t) :
    t.conn = s.conn := by
  rw [queryUidJudged_eq] at h
  cases u <;> cases h <;> simp

/-! ### Instructions and steps -/

theorem execIsCardPresent_keeps_conn {s t : State} (h : execIsCardPresent s = .next t) (hl : s.linkLock ≠ .free) :
    t.conn = s.conn := by
  refine linkOperation_keeps_conn h hl (fun _ hr => ?_)
  have ht : endProbe _ (readExactly 12 s).2 = t := Host.Outcome.next.inj hr
  rw [← ht, endProbe_conn, readExactly_conn]

/-- With the lock held every instruction leaves CONN as it is. -/
theorem exec_keeps_conn {i : Instr} {s t : State} (h : exec i s = .next t) (hl : s.linkLock ≠ .free) :
    t.conn = s.conn := by
  cases i with
  | init tx rx =>
    rw [exec, execInit] at h
    exact linkOperation_keeps_conn h hl (fun _ hr => by cases hr)
  | disconnect =>
    rw [exec, execDisconnect] at h
    exact linkOperation_keeps_conn h hl (fun _ hr => by cases hr)
  | reconnect =>
    rw [exec, execReconnect] at h
    exact linkOperation_keeps_conn h hl (fun _ hr => by cases hr)
  | registerHandler ref =>
    rw [exec, execRegisterHandler] at h
    obtain ⟨-, hr⟩ := freeOperation_next h
    cases hr; rfl
  | queryUid =>
    rw [exec, execQueryUid] at h
    exact linkOperation_keeps_conn h hl (fun _ hr => (queryUidJudged_keeps_conn hr).trans (readExactly_conn 12 s))
  | isInitialized =>
    rw [exec, execIsInitialized] at h
    obtain ⟨-, hr⟩ := freeOperation_next h
    cases hr; rfl
  | isCardPresent => exact execIsCardPresent_keeps_conn h hl
  | writeText text => exact linkOperation_keeps_conn h hl (fun _ => writeResume_keeps_conn)
  | readText => exact linkOperation_keeps_conn h hl (fun _ => readResume_keeps_conn)
  | writeBytes data => exact linkOperation_keeps_conn h hl (fun _ => writeResume_keeps_conn)
  | readBytes => exact linkOperation_keeps_conn h hl (fun _ => readResume_keeps_conn)
  | handlerDone => obtain ⟨-, -, -, rfl⟩ := execHandlerDone_next h; simp
  | uidQuery => exact transmit_keeps_conn (s := buildUidQuery s) h
  | blockRead b => exact transmit_keeps_conn (s := buildBlockRead b s) h
  | blockWrite b d =>
    obtain ⟨-, hsend⟩ := execBlockWrite_next h
    exact (transmit_keeps_conn hsend).trans rfl
  | uidRsp head uid chk => cases h; exact deliver_conn _ _
  | ackRsp head ack mid chk => cases h; exact deliver_conn _ _
  | readRsp head data chk => cases h; exact deliver_conn _ _

/-- With the lock held a step of agent POLL leaves CONN as it is. -/
theorem pollStep_keeps_conn {s t : State} (h : pollStep s = .next t) (hl : s.linkLock ≠ .free) : t.conn = s.conn := by
  rcases pollStep_next h with ⟨-, rfl⟩ | ⟨-, -, -, -, hp⟩ | ⟨-, -, -, -, rfl⟩ | ⟨-, -, -, hp⟩ | ⟨-, rfl⟩
  · rfl
  · exact execIsCardPresent_keeps_conn (s := { s with pollState := .detecting }) hp hl
  · rfl
  · exact execIsCardPresent_keeps_conn hp hl
  · rfl

/-- With the lock held every move of the environment leaves CONN as it is. -/
theorem stepEvent_keeps_conn {e : Event} {s t : State} (h : stepEvent e s = .next t) (hl : s.linkLock ≠ .free) :
    t.conn = s.conn := by
  cases e with
  | request a op args =>
    rcases stepRequest_next h with rfl | ⟨i, -, -, -, hexec⟩
    · rfl
    · exact exec_keeps_conn (s := { s with current := a }) hexec hl
  | run a =>
    rcases stepRun_next h with ⟨-, hpoll⟩ | rfl | ⟨task, -, -, hexec⟩
    · exact pollStep_keeps_conn (s := { s with current := .poll }) hpoll hl
    · rfl
    · exact exec_keeps_conn (s := { s with current := a }) hexec hl
  | receive bytes =>
    simp only [stepEvent, stepReceive_eq] at h
    split at h
    next => cases h; exact deliver_conn bytes s
    next => cases h; rfl
  | elapse d => cases h; rfl
  | setCard card =>
    simp only [stepEvent, stepCard] at h
    split at h <;> cases h <;> rfl

/-- With the lock held every step leaves CONN as it is. -/
theorem step_keeps_conn {s t : State} (h : step s = .next t) (hl : s.linkLock ≠ .free) : t.conn = s.conn := by
  by_cases htx : s.txBuf = []
  · obtain ⟨e, evs, n, hstep⟩ := step_event htx
    exact stepEvent_keeps_conn (s := { s with events := evs, drawn := n }) (hstep ▸ h) hl
  · rw [step_frame htx, stepFrame] at h
    split at h
    next => cases h
    next => exact exec_keeps_conn h hl

end Sys2Proof.Machine
end


-- ==== Sys2Proof/Proofs/Gating.lean ====
section
/-!
Disconnected gating (42_transport.md R183), and O16 and O13: with CONN = 0 a protocol operation takes the lock, ends
with its sentinel and E_NOT_CONNECTED, and gives the lock back in the same atomic step. `trunc` is 0 there (log 13).
-/

namespace Sys2Proof.Machine

/-- A gated operation that is granted the lock with CONN = 0 ends with its sentinel: what it would do with the link up
plays no part. -/
theorem linkOperation_gated {op : Instr} {v : Val} {s : State} {go : State → Out} {resume : Locals → State → Out}
    (hr : Ready s op) (hl : s.linkLock = .free) (hc : s.conn = false) :
    linkOperation op s (fun u => gated v u go) resume =
      .next (endOperation ⟨v, .notConnected, false⟩ { s with linkLock := .held s.current }) := by
  simp [linkOperation_granted hr hl, gated, hc]

/-- Run by an agent other than POLL, IS_CARD_PRESENT ends as an operation with a result record. -/
theorem endProbe_of_ne_poll {s : State} (ha : s.current ≠ .poll) (err : Err) :
    endProbe err s = endOperation ⟨.bool (err == .ok), err, false⟩ s := if_neg ha

/-- Run by POLL, IS_CARD_PRESENT gives up the lock and answers DETECT (45_poll_loop.md R263). -/
theorem endProbe_of_poll {s : State} (ha : s.current = .poll) (err : Err) :
    endProbe err s = detectAnswered (err == .ok) (setTask (release s) .poll none) := if_pos ha

theorem execIsCardPresent_disconnected {s : State} (hr : Ready s .isCardPresent) (hl : s.linkLock = .free)
    (hc : s.conn = false) :
    execIsCardPresent s = .next (endProbe .notConnected { s with linkLock := .held s.current }) := by
  rw [execIsCardPresent, linkOperation_granted hr hl]
  simp [hc]

/-- A protocol operation that is granted the lock with CONN = 0 ends with its sentinel. -/
theorem exec_protocol_ends {i : Instr} {s : State} (hi : isProtocolOp i = true) (hr : Ready s i)
    (hl : s.linkLock = .free) (hc : s.conn = false) (ha : s.current ≠ .poll) :
    exec i s = .next (endOperation (disconnectedResult i) { s with linkLock := .held s.current }) := by
  cases i with
  | queryUid => rw [exec, execQueryUid, linkOperation_gated hr hl hc]; rfl
  | isCardPresent => exact (execIsCardPresent_disconnected hr hl hc).trans (congrArg _ (endProbe_of_ne_poll ha _))
  | writeText text => exact linkOperation_gated hr hl hc
  | readText => exact linkOperation_gated hr hl hc
  | writeBytes data => exact linkOperation_gated hr hl hc
  | readBytes => exact linkOperation_gated hr hl hc
  | _ => cases hi

/-- A protocol operation that finds the lock free and CONN = 0 ends the operation in progress, if any, and returns its
sentinel; it changes nothing else. -/
theorem exec_protocol_disconnected {i : Instr} {s : State} (hi : isProtocolOp i = true) (hr : Ready s i)
    (hl : s.linkLock = .free) (hc : s.conn = false) (ha : s.current ≠ .poll) :
    exec i s =
      .next { setTask s s.current none with returns := (s.current, disconnectedResult i) :: s.returns } := by
  rw [exec_protocol_ends hi hr hl hc ha, endOperation_connection hl]
  simp

/-- POLL's detection with CONN = 0: the answer is false, and the interval starts (45_poll_loop.md R263). -/
theorem exec_detection_disconnected {s : State} (hr : Ready s .isCardPresent) (hl : s.linkLock = .free)
    (hc : s.conn = false) (ha : s.current = .poll) :
    exec .isCardPresent s =
      .next { s with pollTask := none, pollState := .idle, pollTimer := s.cfg.pollIntervalMs } := by
  rw [exec, execIsCardPresent_disconnected hr hl hc, endProbe_of_poll (s := { s with linkLock := .held s.current }) ha]
  simp [detectAnswered, startInterval, setTask, release, ← hl]

/-- Settles O16: the gating of hosts and of POLL, and `step_keeps_conn`. -/
theorem disconnectedOperationsReturnTheirSentinel : Obligations.DisconnectedOperationsReturnTheirSentinel :=
  ⟨fun _ _ => exec_protocol_disconnected, fun _ => exec_detection_disconnected, fun _ _ hl h => step_keeps_conn h hl⟩

/-- Settles O13: DISCONNECT writes CONN alone, and ends with the lock free and CONN = 0, where every protocol operation
of that agent is gated. -/
theorem disconnectKeepsThePins : Obligations.DisconnectKeepsThePins := by
  refine ⟨fun s hr hl => ?granted, fun s a hr hl => ?waits, fun i s t hr hl ha ht hi => ?gatedAfter⟩
  case granted =>
    rw [exec_disconnect_granted hr hl, endOperation_connection hl]
    simp [doneResult]
  case waits => simp only [exec, execDisconnect, linkOperation_waits hr hl]
  case gatedAfter =>
    rw [exec_disconnect_granted hr hl] at ht
    cases ht
    exact exec_protocol_disconnected hi (ready_endOperation _ _ _) (endOperation_linkLock _ _) (endOperation_conn _ _)
      (by simpa using ha)

end Sys2Proof.Machine
end


-- ==== Sys2Proof/Proofs/HexRender.lean ====
section
/-!
HEX_RENDER (44_card_session.md R230), and O27: a nibble is one hexadecimal digit, a byte the digits of its high and low
nibble, a UID those of its four bytes.
-/

namespace Sys2Proof.Machine

/-! ### Digits -/

/-- The hexadecimal digit of a number below 16, as R230 lists them. -/
def hexDigit (n : Nat) : Char :=
  ['0', '1', '2', '3', '4', '5', '6', '7', '8', '9', 'A', 'B', 'C', 'D', 'E', 'F'].getD n '?'

theorem hexChar_eq (n : BitVec 4) : hexChar n = hexDigit n.toNat := by
  have hn : n.toNat < 16 := n.isLt
  rw [hexChar, hexDigit, List.getD_eq_getElem _ _ hn, List.getD_eq_getElem _ _ hn]

/-- A digit is an ASCII decimal digit or one of the capital letters A to F. -/
theorem hexChar_ascii : ∀ n : BitVec 4,
    (0x30 ≤ (hexChar n).toNat ∧ (hexChar n).toNat ≤ 0x39) ∨ (0x41 ≤ (hexChar n).toNat ∧ (hexChar n).toNat ≤ 0x46) := by
  decide

theorem hexChar_injective : ∀ m n : BitVec 4, hexChar m = hexChar n → m = n := by decide

/-! ### Bytes -/

theorem toNat_highNibble (b : Byte) : (b.extractLsb' 4 4).toNat = b.toNat / 16 := by
  rw [BitVec.extractLsb'_toNat, Nat.shiftRight_eq_div_pow]
  omega

theorem toNat_lowNibble (b : Byte) : (b.extractLsb' 0 4).toNat = b.toNat % 16 := by
  rw [BitVec.extractLsb'_toNat, Nat.shiftRight_zero]

theorem hexByte_eq (b : Byte) : hexByte b = [hexDigit (b.toNat / 16), hexDigit (b.toNat % 16)] := by
  rw [hexByte, hexChar_eq, hexChar_eq, toNat_highNibble, toNat_lowNibble]

/-- The two nibbles determine a byte, and their digits determine them. -/
theorem hexByte_injective {b c : Byte} (h : hexByte b = hexByte c) : b = c := by
  rw [hexByte, hexByte, List.cons.injEq, List.cons.injEq] at h
  obtain ⟨hhigh, hlow, -⟩ := h
  have hdiv := congrArg BitVec.toNat (hexChar_injective _ _ hhigh)
  have hmod := congrArg BitVec.toNat (hexChar_injective _ _ hlow)
  rw [toNat_highNibble, toNat_highNibble] at hdiv
  rw [toNat_lowNibble, toNat_lowNibble] at hmod
  exact BitVec.eq_of_toNat_eq (by omega)

/-! ### The whole rendering -/

theorem hexRender_length (u : Uid) : (hexRender u).length = 8 := rfl

/-- Every character of a rendering is the digit of some nibble. -/
theorem mem_hexRender {u : Uid} {c : Char} (h : c ∈ hexRender u) : ∃ n, c = hexChar n := by
  simp only [hexRender, hexByte, List.mem_append, List.mem_cons, List.not_mem_nil, or_false] at h
  rcases h with (((h | h) | (h | h)) | (h | h)) | (h | h) <;> exact ⟨_, h⟩

theorem hexRender_injective {u v : Uid} (h : hexRender u = hexRender v) : u = v := by
  obtain ⟨h012, h3⟩ := List.append_inj' h rfl
  obtain ⟨h01, h2⟩ := List.append_inj' h012 rfl
  obtain ⟨h0, h1⟩ := List.append_inj' h01 rfl
  obtain ⟨u0, u1, u2, u3⟩ := u
  obtain ⟨v0, v1, v2, v3⟩ := v
  rw [Uid.mk.injEq]
  exact ⟨hexByte_injective h0, hexByte_injective h1, hexByte_injective h2, hexByte_injective h3⟩

/-- Settles O27: the digits byte by byte, their codes digit by digit, and injectivity from the fixed length of a byte's
rendering. -/
theorem hexRenderIsFaithful : Obligations.HexRenderIsFaithful := by
  refine ⟨fun u => ?digits, fun u => ⟨hexRender_length u, fun c hc => ?codes⟩, fun _ _ => hexRender_injective,
    by decide, by decide⟩
  case digits =>
    rw [hexRender, hexByte_eq, hexByte_eq, hexByte_eq, hexByte_eq]
    rfl
  case codes =>
    obtain ⟨n, rfl⟩ := mem_hexRender hc
    exact hexChar_ascii n

end Sys2Proof.Machine
end


-- ==== Sys2Proof/Proofs/BeforeInit.lean ====
section
/-!
The operations that need no link: IS_INITIALIZED (44_card_session.md R233) and O21; and what every operation answers
before the first INIT (70_reset_and_hazards.md R332), O50.
-/

namespace Sys2Proof.Machine

/-! ### Operations without the lock -/

/-- An operation without a lock runs at once when its agent is inside nothing. -/
theorem freeOperation_idle {s : State} {run : State → Out} (h : taskOf s s.current = none) :
    freeOperation s run = run s := by
  simp [freeOperation, h]

theorem exec_isInitialized_idle {s : State} (h : taskOf s s.current = none) :
    exec .isInitialized s = .next { s with returns := (s.current, ⟨.bool s.conn, .ok, false⟩) :: s.returns } := by
  rw [exec, execIsInitialized, freeOperation_idle h]; rfl

theorem exec_registerHandler_idle {s : State} (h : taskOf s s.current = none) (ref : HandlerRef) :
    exec (.registerHandler ref) s =
      .next { s with handler := ref, handlerValid := true, returns := (s.current, doneResult) :: s.returns } := by
  rw [exec, execRegisterHandler, freeOperation_idle h]; rfl

/-- With CONN = 1, IS_INITIALIZED answers true. -/
theorem exec_isInitialized_connected {s : State} (h : taskOf s s.current = none) (hc : s.conn = true) :
    exec .isInitialized s = .next { s with returns := (s.current, ⟨.bool true, .ok, false⟩) :: s.returns } := by
  rw [exec_isInitialized_idle h, hc]

/-- The agent of an operation that has just ended is inside nothing. -/
theorem taskOf_current_endOperation (r : Result) (s : State) :
    taskOf (endOperation r s) (endOperation r s).current = none := by
  rw [endOperation_current, taskOf_endOperation_self]

/-- Settles O21: IS_INITIALIZED reports CONN, which INIT sets and RECONNECT sets where CFG_VALID = 1. -/
theorem isInitializedReportsConn : Obligations.IsInitializedReportsConn := by
  refine ⟨fun s => exec_isInitialized_idle, ⟨_, exec_isInitialized_idle rfl, rfl⟩, ?afterConnecting⟩
  rintro i s t (⟨tx, rx, rfl⟩ | ⟨rfl, hv⟩) hr hl ht
  · rw [exec_init_granted hr hl] at ht
    cases ht
    exact exec_isInitialized_connected (taskOf_current_endOperation _ _) (by simp)
  · rw [exec_reconnect_granted hr hl] at ht
    cases ht
    exact exec_isInitialized_connected (taskOf_current_endOperation _ _) (by simp [hv])

/-! ### From reset -/

/-- A poll tick that finds the detection event disabled only starts the interval (45_poll_loop.md R262, R267). -/
theorem step_poll_tick_disabled {s : State} {rest : List Event} (htx : s.txBuf = []) (hd : s.doneSignal = false)
    (hi : s.pollState = .idle) (hz : s.pollTimer = 0) (hc : s.conn = false) :
    step { s with events := .run .poll :: rest } =
      .next { s with events := rest, current := .poll, pollTimer := s.cfg.pollIntervalMs } := by
  refine (step_placed (s := { s with events := .run .poll :: rest }) htx rfl).trans ?_
  simp [stepEvent, stepRun, pollStep, pollTick, tickCondition, eventEnabled, startInterval, hd, hi, hz, hc]

/-- Settles O50: at reset CONN and CFG_VALID are 0, the lock is free and nobody is inside an operation. -/
theorem operationsBeforeInit : Obligations.OperationsBeforeInit := by
  rintro k s rfl
  have hidle : taskOf { State.reset with current := .host k } (.host k) = none := rfl
  refine ⟨fun i hi => ?protocol, exec_isInitialized_idle hidle, ?reconnect, exec_registerHandler_idle hidle,
    fun rest => step_poll_tick_disabled rfl rfl rfl rfl rfl⟩
  case protocol =>
    rw [exec_protocol_disconnected hi (.inl hidle) rfl rfl (by simp), setTask_none_of_idle hidle]
    rfl
  case reconnect =>
    rw [exec_reconnect_granted (.inl hidle) rfl, endOperation_connection rfl, setTask_none_of_idle hidle]
    rfl

end Sys2Proof.Machine
end


-- ==== Sys2Proof/Proofs/StandingRegisters.lean ====
section
/-!
What stands through every instruction but REGISTER_HANDLER: the parameters and BAUD, the registered callback, whose step
it is, and the environment. HANDLER and HANDLER_VALID are written by REGISTER_HANDLER alone (45_poll_loop.md R261).
-/

namespace Sys2Proof.Machine

/-- What no instruction but REGISTER_HANDLER writes. -/
structure Standing where
  cfg : Params
  baud : BaudRate
  handler : HandlerRef
  handlerValid : Bool
  current : Agent
  partner : Partner
  events : List Event
  drawn : Nat

/-- The standing part of a state. -/
def standing (s : State) : Standing :=
  ⟨s.cfg, s.baud, s.handler, s.handlerValid, s.current, s.partner, s.events, s.drawn⟩

theorem handlerValid_of_standing {s t : State} (h : standing t = standing s) : t.handlerValid = s.handlerValid :=
  congrArg Standing.handlerValid h

/-! ### Updates that leave it -/

@[simp] theorem standing_setTask (s : State) (a : Agent) (task : Option Task) :
    standing (setTask s a task) = standing s := by simp [standing]

@[simp] theorem standing_endOperation (r : Result) (s : State) : standing (endOperation r s) = standing s := by
  simp [standing]

@[simp] theorem standing_awaitResponse (op : Instr) (loc : Locals) (s : State) :
    standing (awaitResponse op loc s) = standing s := by simp [standing]

@[simp] theorem standing_deliver (bytes : Bytes) (s : State) : standing (deliver bytes s) = standing s := by
  rw [deliver_eq]; rfl

@[simp] theorem standing_linkWrite (s : State) : standing (linkWrite s) = standing s := by
  rw [linkWrite, partnerReacts]
  split
  next => rfl
  next => exact standing_deliver _ _

@[simp] theorem standing_readExactly (n : Nat) (s : State) : standing (readExactly n s).2 = standing s := by
  rw [readExactly_eq]; split <;> rfl

@[simp] theorem standing_detectAnswered (present : Bool) (s : State) :
    standing (detectAnswered present s) = standing s := by
  cases present <;> rfl

@[simp] theorem standing_endProbe (err : Err) (s : State) : standing (endProbe err s) = standing s := by
  unfold endProbe
  split
  next => rw [standing_detectAnswered, standing_setTask]; rfl
  next => exact standing_endOperation _ _

/-! ### Shared operations that leave it -/

/-- A link operation leaves it when its grant and its resumption do. -/
theorem linkOperation_keeps_standing {op : Instr} {s t : State} {granted : State → Out}
    {resume : Locals → State → Out} (h : linkOperation op s granted resume = .next t)
    (hgrant : ∀ u, granted u = .next t → standing t = standing u)
    (hresume : ∀ loc, resume loc s = .next t → standing t = standing s) : standing t = standing s := by
  rcases linkOperation_next h with ⟨-, -, hg⟩ | ⟨-, -, rfl⟩ | ⟨loc, -, hr⟩ | ⟨-, -, -, rfl⟩
  · exact (hgrant _ hg).trans rfl
  · exact standing_setTask _ _ _
  · exact hresume loc hr
  · rfl

/-- The Disconnected gating leaves it when the operation behind it does. -/
theorem gated_keeps_standing {v : Val} {s t : State} {go : State → Out} (h : gated v s go = .next t)
    (hgo : go s = .next t → standing t = standing s) : standing t = standing s := by
  rcases gated_next h with ⟨-, hg⟩ | ⟨-, rfl⟩
  · exact hgo hg
  · exact standing_endOperation _ _

theorem transmit_keeps_standing {s t : State} (h : transmit s = .next t) : standing t = standing s := by
  obtain ⟨-, -, rfl⟩ := transmit_next h
  exact (standing_linkWrite _).trans rfl

theorem writeFrom_keeps_standing {op : Instr} {stream : Bytes} {k : Nat} {s t : State}
    (h : writeFrom op stream k s = .next t) : standing t = standing s := by
  rcases writeFrom_next h with ⟨-, rfl⟩ | ⟨b, -, rfl⟩
  · exact standing_endOperation _ _
  · exact (standing_awaitResponse _ _ _).trans rfl

theorem readFrom_keeps_standing {op : Instr} {wrap : Bytes → Val} {k : Nat} {out : Bytes} {s t : State}
    (h : readFrom op wrap k out s = .next t) : standing t = standing s := by
  rcases readFrom_next h with ⟨-, rfl⟩ | ⟨b, -, rfl⟩
  · exact standing_endOperation _ _
  · exact (standing_awaitResponse _ _ _).trans rfl

/-- A stream write, issued or resuming, leaves it. -/
theorem writeOperation_keeps_standing {op : Instr} {v : Val} {stream : Bytes} {s t : State}
    (h : linkOperation op s (fun u => gated v u (writeFrom op stream 0)) (writeResume op) = .next t) :
    standing t = standing s := by
  refine linkOperation_keeps_standing h (fun _ hg => gated_keeps_standing hg writeFrom_keeps_standing) fun _ hr => ?_
  rcases writeResume_next hr with ⟨e, -, rfl⟩ | ⟨-, hw⟩
  · simp
  · simpa using writeFrom_keeps_standing hw

/-- A stream read, issued or resuming, leaves it. -/
theorem readOperation_keeps_standing {op : Instr} {v : Val} {wrap : Bytes → Val} {s t : State}
    (h : linkOperation op s (fun u => gated v u (readFrom op wrap 0 [])) (readResume op wrap) = .next t) :
    standing t = standing s := by
  refine linkOperation_keeps_standing h (fun _ hg => gated_keeps_standing hg readFrom_keeps_standing) fun _ hr => ?_
  rcases readResume_next hr with ⟨e, -, rfl⟩ | ⟨blk, i, -, -, rfl⟩ | ⟨blk, -, -, hread⟩
  · simp
  · simp
  · simpa using readFrom_keeps_standing hread

theorem queryUidJudged_keeps_standing {u : Except Err Uid} {s t : State} (h : queryUidJudged u s = .next t) :
    standing t = standing s := by
  rw [queryUidJudged_eq] at h
  cases u with
  | error e => cases h; exact standing_endOperation _ _
  | ok uid => cases h; exact (standing_endOperation _ _).trans rfl

/-! ### Instructions -/

/-- Every instruction but REGISTER_HANDLER leaves it. -/
theorem exec_keeps_standing {i : Instr} {s t : State} (h : exec i s = .next t)
    (hreg : ∀ ref, i ≠ .registerHandler ref) : standing t = standing s := by
  cases i with
  | init tx rx =>
    rw [exec, execInit] at h
    exact linkOperation_keeps_standing h (by rintro u ⟨⟩; exact standing_endOperation _ _) (fun _ hr => by cases hr)
  | disconnect =>
    rw [exec, execDisconnect] at h
    exact linkOperation_keeps_standing h (by rintro u ⟨⟩; exact standing_endOperation _ _) (fun _ hr => by cases hr)
  | reconnect =>
    rw [exec, execReconnect] at h
    refine linkOperation_keeps_standing h ?_ (fun _ hr => by cases hr)
    rintro u ⟨⟩
    rw [standing_endOperation]
    split <;> rfl
  | registerHandler ref => exact absurd rfl (hreg ref)
  | queryUid =>
    rw [exec, execQueryUid] at h
    refine linkOperation_keeps_standing h (fun _ hg => gated_keeps_standing hg ?_) fun _ hr => ?_
    · rintro ⟨⟩; exact (standing_awaitResponse _ _ _).trans rfl
    · exact (queryUidJudged_keeps_standing hr).trans (standing_readExactly 12 s)
  | isInitialized =>
    rw [exec, execIsInitialized] at h
    obtain ⟨-, hr⟩ := freeOperation_next h
    cases hr; rfl
  | isCardPresent =>
    rw [exec, execIsCardPresent] at h
    refine linkOperation_keeps_standing h (fun u hg => ?_) fun _ hr => ?_
    · split at hg
      next => cases hg; exact (standing_awaitResponse _ _ _).trans rfl
      next => cases hg; exact standing_endProbe _ _
    · cases hr; exact (standing_endProbe _ _).trans (standing_readExactly 12 s)
  | writeText text => exact writeOperation_keeps_standing h
  | readText => exact readOperation_keeps_standing h
  | writeBytes data => exact writeOperation_keeps_standing h
  | readBytes => exact readOperation_keeps_standing h
  | handlerDone => obtain ⟨-, -, -, rfl⟩ := execHandlerDone_next h; rfl
  | uidQuery => exact transmit_keeps_standing (s := buildUidQuery s) h
  | blockRead b => exact transmit_keeps_standing (s := buildBlockRead b s) h
  | blockWrite b d =>
    obtain ⟨-, hsend⟩ := execBlockWrite_next h
    exact (transmit_keeps_standing hsend).trans rfl
  | uidRsp head uid chk => cases h; exact standing_deliver _ _
  | ackRsp head ack mid chk => cases h; exact standing_deliver _ _
  | readRsp head data chk => cases h; exact standing_deliver _ _

end Sys2Proof.Machine
end


-- ==== Sys2Proof/Proofs/PollLoop.lean ====
section
/-!
The operations of the poll loop: the registration of the callback (45_poll_loop.md R261) and O32, its return (R266) and
O33, and its start on a positive detection (R263, R264) and O34.
-/

namespace Sys2Proof.Machine

/-! ### REGISTER_HANDLER -/

/-- A registration that answers a next state is the effect of R261, whatever the callback in progress. -/
theorem exec_registerHandler_next {ref : HandlerRef} {s t : State} (h : exec (.registerHandler ref) s = .next t) :
    t = returnResult doneResult { s with handler := ref, handlerValid := true } := by
  rw [exec, execRegisterHandler] at h
  obtain ⟨-, hr⟩ := freeOperation_next h
  exact (Host.Outcome.next.inj hr).symm

/-- No instruction clears HANDLER_VALID: REGISTER_HANDLER sets it, and no other one writes it. -/
theorem exec_keeps_handlerValid {i : Instr} {s t : State} (hv : s.handlerValid = true) (h : exec i s = .next t) :
    t.handlerValid = true := by
  by_cases hreg : ∃ ref, i = .registerHandler ref
  · obtain ⟨ref, rfl⟩ := hreg
    rw [exec_registerHandler_next h, returnResult_handlerValid]
  · have hstand : standing t = standing s := exec_keeps_standing h (not_exists.mp hreg)
    rw [handlerValid_of_standing hstand, hv]

/-- Settles O32: the effect of a registration, the one that `dispatch` reads after two of them, and
`exec_keeps_handlerValid`. -/
theorem registerHandlerReplaces : Obligations.RegisterHandlerReplaces := by
  refine ⟨fun ref s hidle => exec_registerHandler_idle hidle ref, fun h₁ h₂ s t u _ hu => ?_,
    fun _ _ _ => exec_keeps_handlerValid⟩
  rw [exec_registerHandler_next hu, dispatch_running, returnResult_handler]

/-! ### HANDLER_DONE -/

/-- HANDLER_DONE in its place returns from the event (60_exceptions.md R313). -/
theorem execHandlerDone_inPlace {s : State} (hcur : s.current = .handler) (hd : s.pollState = .dispatching)
    (hidle : taskOf s .handler = none) : execHandlerDone s = .next (returnResult doneResult (eventReturn s)) := by
  rw [execHandlerDone, if_pos ⟨hcur, hd⟩, freeOperation_idle (hcur ▸ hidle)]

/-- Once signalled, agent POLL takes the signal and starts the interval, whatever POLL_STATE is (log 27). -/
theorem pollStep_signalled {s : State} (h : s.doneSignal = true) :
    pollStep s = .next (startInterval { s with doneSignal := false }) := by
  rw [pollStep, if_pos h]

/-- Settles O33: the effect of HANDLER_DONE in place, its refusal out of place, and POLL's step on the signal. -/
theorem handlerDoneEndsTheDispatch : Obligations.HandlerDoneEndsTheDispatch := by
  refine ⟨fun s hcur hd hidle => ?_, fun s => execHandlerDone_outOfPlace, fun s => pollStep_signalled⟩
  rw [exec, execHandlerDone_inPlace hcur hd hidle, returnResult, eventReturn_current, hcur]
  rfl

/-! ### A positive detection -/

/-- A detection whose settle delay has ended answers with the verdict on what is in RX_FIFO. -/
theorem exec_isCardPresent_settled {s : State} {loc : Locals} (hs : Settled s .isCardPresent loc) :
    exec .isCardPresent s =
      .next (endProbe (probeError (parseUidRsp (readExactly 12 s).2.cfg.validateRx (readExactly 12 s).1))
        (readExactly 12 s).2) := by
  rw [exec, execIsCardPresent, linkOperation_resumes hs]

/-- Twelve bytes whose checksum is good, or not looked at, are a UID response (41_frame_codec.md R143, R146). -/
theorem parseUidRsp_accepted {v : Bool} {r : Bytes} (hlen : r.length = 12)
    (hchk : v = true → verifyChecksum r = true) : parseUidRsp v (some r) = .ok (uidAt r) := by
  have haccept : checksumAccepted v r = true := by
    cases v with
    | false => rfl
    | true => exact hchk rfl
  rw [parseUidRsp_of_length v hlen, if_pos haccept]

/-- A positive answer to POLL gives up the lock and enters the event in the same step (45_poll_loop.md R263, R264). -/
theorem endProbe_ok_of_poll {s : State} (ha : s.current = .poll) :
    endProbe .ok s = dispatch (setTask (release s) .poll none) := endProbe_of_poll ha _

/-- While Dispatching and not signalled, agent POLL waits (45_poll_loop.md R271). -/
theorem pollStep_dispatching {s : State} (hd : s.doneSignal = false) (hp : s.pollState = .dispatching) :
    pollStep s = .next s := by
  simp [pollStep, hd, hp]

/-- Settles O34: good bytes are a verdict for the card, which POLL's probe turns into the dispatch without a test of
CONN or HANDLER_VALID; POLL's wait is `pollStep_dispatching`. -/
theorem positiveDetectionDispatches : Obligations.PositiveDetectionDispatches := by
  refine ⟨fun s loc ha hs hlen hchk => ?_, fun s => pollStep_dispatching⟩
  have hread : readExactly 12 s = (some s.rxFifo, { s with rxFifo := [] }) := readExactly_received s hlen
  rw [exec_isCardPresent_settled hs, hread, parseUidRsp_accepted hlen hchk, probeError,
    endProbe_ok_of_poll (s := { s with rxFifo := [] }) ha]
  rfl

end Sys2Proof.Machine
end


-- ==== Sys2Proof/Proofs/Encodings.lean ====
section
/-!
Decoding and encoding (30_encoding.md R81 to R102), and O1, O2, O3 and O5. For each of the three kinds of message the
decoder reads `i` exactly from what the encoder writes for a well-formed `i`: the header word and the checksum of a
request, and the length of a response, leave no freedom.
-/

namespace Sys2Proof

open Machine

/-! ### The header word -/

/-- Four bytes are determined by the word they make. -/
theorem bytes_eq_of_append_eq {b0 b1 b2 b3 c0 c1 c2 c3 : Byte}
    (h : b0 ++ b1 ++ b2 ++ b3 = c0 ++ c1 ++ c2 ++ c3) : b0 = c0 ∧ b1 = c1 ∧ b2 = c2 ∧ b3 = c3 := by
  have halves {m n : Nat} {x x' : BitVec m} {y y' : BitVec n} (h : x ++ y = x' ++ y') : x = x' ∧ y = y' := by
    have hhigh := congrArg (BitVec.extractLsb' n m) h
    have hlow := congrArg (BitVec.extractLsb' 0 n) h
    simpa [BitVec.extractLsb'_append_eq_left, BitVec.extractLsb'_append_eq_right] using And.intro hhigh hlow
  obtain ⟨h012, h3⟩ := halves h
  obtain ⟨h01, h2⟩ := halves h012
  obtain ⟨h0, h1⟩ := halves h01
  exact ⟨h0, h1, h2, h3⟩

/-! ### Host requests -/

/-- What a test answers, told by its branch. -/
theorem ite_cases {α : Type} {c : Prop} [Decidable c] {a b v : α} (h : (if c then a else b) = v) :
    (c ∧ a = v) ∨ (¬ c ∧ b = v) := by
  split at h
  next hc => exact .inl ⟨hc, h⟩
  next hc => exact .inr ⟨hc, h⟩

/-- A host request is read from the op code and the operands of its own row (30_encoding.md R100). -/
theorem encode_of_decodeHost {op : Byte} {args : List HostVal} {i : Instr} (h : decodeHost op args = .ok i) :
    encode i = .host op args := by
  unfold decodeHost at h
  iterate 12
    rcases ite_cases h with ⟨rfl, h⟩ | ⟨-, h⟩
    · split at h <;> cases h
      rfl
  cases h

/-! ### Request frames -/

theorem decodeUidQueryTail_ok_iff {frame tail : Bytes} {i : Instr} :
    decodeUidQueryTail frame tail = .ok i ↔
      ∃ c, tail = [0x00#8, 0x01#8, 0x00#8, c] ∧ verifyChecksum frame = true ∧ i = .uidQuery := by
  constructor
  · intro h
    unfold decodeUidQueryTail at h
    split at h
    next blk cnt rsv c =>
      split_ifs at h with hblk hcnt hrsv hchk
      cases h
      rw [not_not.mp hblk, not_not.mp hcnt, not_not.mp hrsv]
      exact ⟨c, rfl, hchk, rfl⟩
    next => cases h
  · rintro ⟨c, rfl, hchk, rfl⟩
    simp [decodeUidQueryTail, hchk]

theorem decodeBlockReadTail_ok_iff {frame tail : Bytes} {i : Instr} :
    decodeBlockReadTail frame tail = .ok i ↔
      ∃ b c, tail = [b, 0x01#8, 0x00#8, c] ∧ verifyChecksum frame = true ∧ i = .blockRead b := by
  constructor
  · intro h
    unfold decodeBlockReadTail at h
    split at h
    next blk cnt rsv c =>
      split_ifs at h with hcnt hrsv hchk
      cases h
      rw [not_not.mp hcnt, not_not.mp hrsv]
      exact ⟨blk, c, rfl, hchk, rfl⟩
    next => cases h
  · rintro ⟨b, c, rfl, hchk, rfl⟩
    simp [decodeBlockReadTail, hchk]

theorem decodeBlockWriteTail_ok_iff {frame tail : Bytes} {i : Instr} :
    decodeBlockWriteTail frame tail = .ok i ↔
      ∃ b d c, d.length = 16 ∧ tail = [b, 0x01#8] ++ d ++ [c] ∧ verifyChecksum frame = true ∧
        i = .blockWrite b d := by
  constructor
  · intro h
    unfold decodeBlockWriteTail at h
    split at h
    next blk cnt rest =>
      split_ifs at h with hlen hcnt hchk
      cases h
      obtain ⟨d, c, rfl⟩ := rest.eq_nil_or_concat'.resolve_left (by rintro rfl; simp at hlen)
      have hd : d.length = 16 := by simpa using hlen
      rw [not_not.mp hcnt, List.take_left' hd]
      exact ⟨blk, d, c, hd, rfl, hchk, rfl⟩
    next => cases h
  · rintro ⟨b, d, c, hd, rfl, hchk, rfl⟩
    simp [decodeBlockWriteTail, hchk, hd]

/-- The checksum byte of each request frame that verifies is the one its row gives (30_encoding.md R81 to R83). -/
theorem verifyChecksum_uidQuery {c : Byte} :
    verifyChecksum [0x01#8, 0x08#8, 0xA1#8, 0x20#8, 0x00#8, 0x01#8, 0x00#8, c] = true ↔ c = 0x76#8 := by
  have h := verifyChecksum_append [0x01#8, 0x08#8, 0xA1#8, 0x20#8, 0x00#8, 0x01#8, 0x00#8] c
  exact (Bool.eq_iff_iff.mp h).trans decide_eq_true_iff

theorem verifyChecksum_blockRead {b c : Byte} :
    verifyChecksum [0x01#8, 0x08#8, 0xA3#8, 0x20#8, b, 0x01#8, 0x00#8, c] = true ↔ c = 0x74#8 ^^^ b := by
  have h := verifyChecksum_append [0x01#8, 0x08#8, 0xA3#8, 0x20#8, b, 0x01#8, 0x00#8] c
  rw [xorFold_blockRead] at h
  exact (Bool.eq_iff_iff.mp h).trans decide_eq_true_iff

theorem verifyChecksum_blockWrite {b c : Byte} {d : Bytes} :
    verifyChecksum ([0x01#8, 0x17#8, 0xA4#8, 0x20#8, b, 0x01#8] ++ d ++ [c]) = true ↔
      c = blockWriteChecksum b d := by
  rw [verifyChecksum_append, xorFold_blockWrite, decide_eq_true_iff]

/-- The header tells the two block frames apart (30_encoding.md R95). -/
theorem decodeRequest_blockReadHeader (tail : Bytes) :
    decodeRequest (0x01#8 :: 0x08#8 :: 0xA3#8 :: 0x20#8 :: tail) =
      decodeBlockReadTail (0x01#8 :: 0x08#8 :: 0xA3#8 :: 0x20#8 :: tail) tail := rfl

theorem decodeRequest_blockWriteHeader (tail : Bytes) :
    decodeRequest (0x01#8 :: 0x17#8 :: 0xA4#8 :: 0x20#8 :: tail) =
      decodeBlockWriteTail (0x01#8 :: 0x17#8 :: 0xA4#8 :: 0x20#8 :: tail) tail := rfl

/-- A request frame decodes to `i` exactly when it is the one the encoder writes for `i` (30_encoding.md R95). -/
theorem decodeRequest_ok_iff {frame : Bytes} {i : Instr} :
    decodeRequest frame = .ok i ↔ i.wellFormed = true ∧ encode i = .request frame := by
  constructor
  · intro h
    unfold decodeRequest at h
    split at h
    next b0 b1 b2 b3 tail =>
      split_ifs at h with huid hread hwrite
      · obtain ⟨rfl, rfl, rfl, rfl⟩ := bytes_eq_of_append_eq (c0 := 0x01#8) (c1 := 0x08#8) (c2 := 0xA1#8)
          (c3 := 0x20#8) huid
        obtain ⟨c, rfl, hchk, rfl⟩ := decodeUidQueryTail_ok_iff.mp h
        rw [verifyChecksum_uidQuery.mp hchk]
        exact ⟨rfl, rfl⟩
      · obtain ⟨rfl, rfl, rfl, rfl⟩ := bytes_eq_of_append_eq (c0 := 0x01#8) (c1 := 0x08#8) (c2 := 0xA3#8)
          (c3 := 0x20#8) hread
        obtain ⟨b, c, rfl, hchk, rfl⟩ := decodeBlockReadTail_ok_iff.mp h
        rw [verifyChecksum_blockRead.mp hchk]
        exact ⟨rfl, rfl⟩
      · obtain ⟨rfl, rfl, rfl, rfl⟩ := bytes_eq_of_append_eq (c0 := 0x01#8) (c1 := 0x17#8) (c2 := 0xA4#8)
          (c3 := 0x20#8) hwrite
        obtain ⟨b, d, c, hd, rfl, hchk, rfl⟩ := decodeBlockWriteTail_ok_iff.mp h
        rw [verifyChecksum_blockWrite.mp hchk]
        exact ⟨by simp [Instr.wellFormed, hd], rfl⟩
    next => cases h
  · rintro ⟨hwf, henc⟩
    cases i with
    | uidQuery => cases henc; decide
    | blockRead b =>
      cases henc
      rw [decodeRequest_blockReadHeader]
      exact decodeBlockReadTail_ok_iff.mpr ⟨b, _, rfl, verifyChecksum_blockRead.mpr rfl, rfl⟩
    | blockWrite b d =>
      cases henc
      have hd : d.length = 16 := by simpa [Instr.wellFormed] using hwf
      exact (decodeRequest_blockWriteHeader _).trans <|
        decodeBlockWriteTail_ok_iff.mpr ⟨b, d, _, hd, rfl, verifyChecksum_blockWrite.mpr rfl, rfl⟩
    | _ => cases henc

/-! ### Response frames -/

/-- Five bytes, the block data and the checksum slot are a READ_RSP (30_encoding.md R92). -/
theorem decodeResponse_readRsp {head data : Bytes} (c : Byte) (hh : head.length = 5) (hd : data.length = 16) :
    decodeResponse (head ++ data ++ [c]) = .ok (.readRsp head data c) := by
  match head, hh with
  | [x0, x1, x2, x3, x4], _ =>
    match data, hd with
    | [d0, d1, d2, d3, d4, d5, d6, d7, d8, d9, d10, d11, d12, d13, d14, d15], _ => rfl

/-- A response frame that the encoder writes for a well-formed `i` decodes to `i` (30_encoding.md R93). -/
theorem decodeResponse_of_encode {frame : Bytes} {i : Instr} (hwf : i.wellFormed = true)
    (henc : encode i = .response frame) : decodeResponse frame = .ok i := by
  cases i with
  | uidRsp head uid c =>
    cases henc
    match head, (by simpa [Instr.wellFormed] using hwf : head.length = 7) with
    | [_, _, _, _, _, _, _], _ => rfl
  | ackRsp head ack mid c =>
    cases henc
    obtain ⟨hh, hm⟩ : head.length = 4 ∧ mid.length = 2 := by simpa [Instr.wellFormed] using hwf
    match head, hh, mid, hm with
    | [_, _, _, _], _, [_, _], _ => rfl
  | readRsp head data c =>
    cases henc
    obtain ⟨hh, hd⟩ : head.length = 5 ∧ data.length = 16 := by simpa [Instr.wellFormed] using hwf
    exact decodeResponse_readRsp c hh hd
  | _ => cases henc

/-- A sequence of another length is no response (30_encoding.md R93). -/
theorem decodeResponse_otherLength {f : Bytes} (h12 : f.length ≠ 12) (h8 : f.length ≠ 8) (h22 : f.length ≠ 22) :
    decodeResponse f = .error .noResponse := by
  unfold decodeResponse
  split
  · exact absurd rfl h12
  · exact absurd rfl h8
  next rest _ _ => rw [if_neg (by rintro hr; simp [hr] at h22)]
  next => rfl

/-! ### The obligations -/

/-- Settles O1: a host request by computation, a request frame by `decodeRequest_ok_iff`, a response frame by its
length. -/
theorem decodeOfEncodeIsTheInstruction : Obligations.DecodeOfEncodeIsTheInstruction := by
  intro i hwf
  cases henc : encode i with
  | host op args => cases i <;> cases henc <;> rfl
  | request frame => exact decodeRequest_ok_iff.mpr ⟨hwf, henc⟩
  | response frame => exact decodeResponse_of_encode hwf henc

/-- Settles O2. -/
theorem acceptedRequestFramesAreTheEncoded : Obligations.AcceptedRequestFramesAreTheEncoded :=
  fun _ _ h => (decodeRequest_ok_iff.mp h).2

/-- Settles O3: a frame of each length is cut into the fields of its row, and is what the encoder writes for them. -/
theorem responsesAreToldByLength : Obligations.ResponsesAreToldByLength := by
  refine fun f => ⟨fun h => ?uid, fun h => ?ack, fun h => ?read, decodeResponse_otherLength⟩
  case uid =>
    match f, h with
    | [x0, x1, x2, x3, x4, x5, x6, u0, u1, u2, u3, c], _ =>
      exact ⟨[x0, x1, x2, x3, x4, x5, x6], ⟨u0, u1, u2, u3⟩, c, rfl, rfl⟩
  case ack =>
    match f, h with
    | [x0, x1, x2, x3, a, x5, x6, c], _ => exact ⟨[x0, x1, x2, x3], a, [x5, x6], c, rfl, rfl⟩
  case read =>
    obtain ⟨body, c, rfl⟩ := f.eq_nil_or_concat'.resolve_left (by rintro rfl; cases h)
    have hbody : body.length = 21 := by simpa using h
    rw [← List.take_append_drop 5 body]
    exact ⟨_, _, c, decodeResponse_readRsp c (by simp [hbody]) (by simp [hbody]), rfl⟩

/-- Settles O5, by computation. -/
theorem sampleWordsDecode : Obligations.SampleWordsDecode :=
  ⟨by decide, by decide, fun _ _ => rfl, rfl⟩

end Sys2Proof
end


-- ==== Sys2Proof/Proofs/LinkSteps.lean ====
section
/-!
What one atomic step of a link operation can do (20_memory.md R65, 42_transport.md R178 to R183, 43_block_io.md R204,
R205, 44_card_session.md R231 to R237). The inductive `LinkStep` lists the ways; `exec_linkStep` says that there is no
other. The invariants and the frame statements go through its cases.
-/

namespace Sys2Proof.Machine

/-- The current agent asks for the lock on behalf of `i` and finds it free. -/
def Granted (s : State) (i : Instr) : Prop := Ready s i ∧ s.linkLock = .free

/-- RX_FIFO as READ_EXACTLY leaves it: untouched, or taken whole (42_transport.md R178). -/
def Drained (s : State) (fifo : Bytes) : Prop := fifo = s.rxFifo ∨ fifo = []

/-- The state in which POLL's detection has given up the lock and is over (45_poll_loop.md R263). -/
def probeOver (s : State) : State := { s with linkLock := .free, pollTask := none }

/-- The locals fit their block cursor: it is within the budget, and each block before it gave at most 16 bytes. -/
def LocalsFit (p : Params) (loc : Locals) : Prop :=
  loc.k < budgetBlocks p.budget ∧ loc.out.length ≤ 16 * loc.k

/-- The ways one atomic step of the link operation `i` of the current agent can change the state. -/
inductive LinkStep (s : State) : Instr → State → Prop
  /-- The lock is held: the agent waits for it. -/
  | waits {i : Instr} {a : Agent} : Ready s i → s.linkLock = .held a →
      LinkStep s i (setTask s s.current (some ⟨i, .lockWait⟩))
  /-- The settle delay still runs. -/
  | settling {i : Instr} {loc : Locals} : taskOf s s.current = some ⟨i, .settle loc⟩ → s.settleTimer ≠ 0 →
      LinkStep s i s
  /-- INIT, granted the lock, ends. -/
  | configures {tx rx : PinId} : Granted s (.init tx rx) →
      LinkStep s (.init tx rx) (endOperation doneResult (configure tx rx s.baud s))
  /-- DISCONNECT, granted the lock, ends. -/
  | disconnects : Granted s .disconnect → LinkStep s .disconnect (endOperation doneResult { s with conn := false })
  /-- RECONNECT, granted the lock, ends. -/
  | reconnects : Granted s .reconnect →
      LinkStep s .reconnect (endOperation doneResult { s with conn := s.cfgValid || s.conn })
  /-- A protocol operation, granted the lock, ends without a frame: CONN = 0, or there is no block. -/
  | endsAtOnce {i : Instr} {r : Result} : isProtocolOp i = true → Granted s i →
      (i = .isCardPresent → s.current ≠ .poll) → LegalResult s.cfg r → LinkStep s i (endOperation r s)
  /-- A protocol operation, granted the lock with CONN = 1, builds its first frame. -/
  | starts {i : Instr} {loc : Locals} {f : Bytes} : isProtocolOp i = true → Granted s i → s.conn = true →
      LocalsFit s.cfg loc → EmittedFrame s.cfg f →
      LinkStep s i (awaitResponse i loc { s with linkLock := .held s.current, txBuf := f })
  /-- After its settle delay a protocol operation ends with a result. -/
  | answers {i : Instr} {loc : Locals} {fifo : Bytes} {r : Result} : isProtocolOp i = true → Settled s i loc →
      Drained s fifo → (i = .isCardPresent → s.current ≠ .poll) → (LocalsFit s.cfg loc → LegalResult s.cfg r) →
      LinkStep s i (endOperation r { s with rxFifo := fifo })
  /-- After its settle delay QUERY_UID ends with a UID, which it writes to LAST_UID. -/
  | readsUid {loc : Locals} {fifo : Bytes} {u : Uid} : Settled s .queryUid loc → Drained s fifo →
      LinkStep s .queryUid
        (endOperation ⟨.text (hexRender u), .ok, false⟩ (writeLastUid u { s with rxFifo := fifo }))
  /-- After its settle delay a stream operation builds the frame of its next block. -/
  | goesOn {i : Instr} {loc loc' : Locals} {fifo f : Bytes} : isProtocolOp i = true → Settled s i loc →
      Drained s fifo → (LocalsFit s.cfg loc → LocalsFit s.cfg loc') → EmittedFrame s.cfg f →
      LinkStep s i (awaitResponse i loc' { s with rxFifo := fifo, txBuf := f })
  /-- POLL's detection, granted the lock with CONN = 0, answers false. -/
  | probeGated : s.current = .poll → Granted s .isCardPresent → s.conn = false →
      LinkStep s .isCardPresent (detectAnswered false (probeOver s))
  /-- After its settle delay POLL's detection answers whether a good UID response has arrived. -/
  | probeJudged {loc : Locals} {fifo : Bytes} {present : Bool} : s.current = .poll →
      Settled s .isCardPresent loc → Drained s fifo →
      (present = true ↔ s.rxFifo.length = 12 ∧ (s.cfg.validateRx = true → verifyChecksum s.rxFifo = true)) →
      LinkStep s .isCardPresent (detectAnswered present (probeOver { s with rxFifo := fifo }))

/-! ### Blocks and frames -/

/-- A block of BLOCK_SEQ stands at a cursor within the budget. -/
theorem blockSeq_getElem? {p : Params} {k : Nat} {b : Byte} (h : (blockSeq p)[k]? = some b) :
    k < budgetBlocks p.budget ∧ b ∈ blockSeq p := by
  refine ⟨?_, List.mem_of_getElem? h⟩
  have hk : k < (blockSeq p).length := (List.getElem?_eq_some_iff.mp h).1
  exact hk.trans_le (List.length_take_le _ _)

/-- A block that WRITE_STREAM writes is the one of BLOCK_SEQ at the same cursor. -/
theorem writtenBlocks_getElem? {p : Params} {n k : Nat} {b : Byte} (h : (writtenBlocks p n)[k]? = some b) :
    (blockSeq p)[k]? = some b := by
  rw [writtenBlocks, List.getElem?_take] at h
  exact (Option.ite_none_right_eq_some.mp h).2

theorem emittedFrame_uidQuery (p : Params) : EmittedFrame p (frameBytes .uidQuery) := .inl rfl

theorem emittedFrame_blockRead {p : Params} {b : Byte} (h : b ∈ blockSeq p) :
    EmittedFrame p (frameBytes (.blockRead b)) := .inr (.inl ⟨b, h, rfl⟩)

theorem emittedFrame_blockWrite {p : Params} {b : Byte} (h : b ∈ blockSeq p) (stream : Bytes) (k : Nat) :
    EmittedFrame p (frameBytes (.blockWrite b (chunk stream k))) :=
  .inr (.inr ⟨b, h, _, chunk_length stream k, rfl⟩)

theorem budgetBlocks_pos (budget : BlockBudget) : 0 < budgetBlocks budget := by cases budget <;> decide

theorem localsFit_start (p : Params) (stream : Bytes) : LocalsFit p ⟨0, [], stream⟩ :=
  ⟨budgetBlocks_pos _, Nat.zero_le _⟩

/-- A block read gives at most 16 bytes (30_encoding.md R92). -/
theorem length_of_parseReadRsp_ok {v : Bool} {r : Option Bytes} {blk : Bytes} (h : parseReadRsp v r = .ok blk) :
    blk.length ≤ 16 := by
  cases r with
  | none => cases h
  | some bytes =>
    by_cases hlen : bytes.length = 22
    · rw [parseReadRsp_of_length v hlen] at h
      rcases ite_cases h with ⟨-, h⟩ | ⟨-, h⟩ <;> cases h
      exact List.length_take_le _ _
    · rw [parseReadRsp, dataField, if_neg hlen] at h
      cases h

/-! ### READ_EXACTLY -/

/-- READ_EXACTLY changes RX_FIFO alone. -/
theorem readExactly_drains (n : Nat) (s : State) :
    ∃ fifo, Drained s fifo ∧ (readExactly n s).2 = { s with rxFifo := fifo } := by
  rw [readExactly_eq]
  split
  · exact ⟨[], .inr rfl, rfl⟩
  · exact ⟨s.rxFifo, .inl rfl, rfl⟩

/-- A UID response is good when 12 bytes are there and, where validated, the checksum is good (44_card_session.md
R232). -/
theorem probeError_readExactly (s : State) :
    (probeError (parseUidRsp (readExactly 12 s).2.cfg.validateRx (readExactly 12 s).1) == .ok) = true ↔
      s.rxFifo.length = 12 ∧ (s.cfg.validateRx = true → verifyChecksum s.rxFifo = true) := by
  rw [readExactly_eq]
  by_cases hlen : s.rxFifo.length = 12
  · simp only [hlen, if_true, true_and, parseUidRsp_of_length _ hlen]
    cases hv : s.cfg.validateRx <;> cases hc : verifyChecksum s.rxFifo <;>
      simp [checksumAccepted, hc, probeError]
  · simp [hlen, parseUidRsp, probeError]

/-! ### The stream operations -/

section Streams

variable {op : Instr} {s t : State}

/-- A stream write, issued or resuming. -/
theorem writeOperation_linkStep {stream : Bytes} (hop : isProtocolOp op = true) (hprobe : op ≠ .isCardPresent)
    (h : linkOperation op s (fun u => gated (.bool false) u (writeFrom op stream 0)) (writeResume op) = .next t) :
    LinkStep s op t := by
  rcases linkOperation_next h with ⟨hr, hl, hg⟩ | ⟨hr, ⟨a, hl⟩, rfl⟩ | ⟨loc, hs, hres⟩ | ⟨loc, ht, hz, rfl⟩
  · rcases gated_next hg with ⟨hc, hw⟩ | ⟨-, rfl⟩
    · rcases writeFrom_next hw with ⟨-, rfl⟩ | ⟨b, hb, rfl⟩
      · exact .endsAtOnce hop ⟨hr, hl⟩ (absurd · hprobe) (fun _ => rfl)
      · exact .starts hop ⟨hr, hl⟩ hc (localsFit_start _ _)
          (emittedFrame_blockWrite (blockSeq_getElem? (writtenBlocks_getElem? hb)).2 _ _)
    · exact .endsAtOnce hop ⟨hr, hl⟩ (absurd · hprobe) nofun
  · exact .waits hr hl
  · obtain ⟨fifo, hfifo, hread⟩ := readExactly_drains 8 s
    rcases writeResume_next hres with ⟨e, -, rfl⟩ | ⟨-, hw⟩
    · rw [hread]
      exact .answers hop hs hfifo (absurd · hprobe) (fun _ => nofun)
    · rw [hread] at hw
      rcases writeFrom_next hw with ⟨-, rfl⟩ | ⟨b, hb, rfl⟩
      · exact .answers hop hs hfifo (absurd · hprobe) (fun _ _ => rfl)
      · obtain ⟨hk, hb⟩ := blockSeq_getElem? (writtenBlocks_getElem? hb)
        exact .goesOn hop hs hfifo (fun _ => ⟨hk, Nat.zero_le _⟩) (emittedFrame_blockWrite hb _ _)
  · exact .settling ht hz

/-- A value that READ_STREAM's result may carry: text, or no more bytes than the blocks hold. -/
def LegalWrap (wrap : Bytes → Val) : Prop :=
  ∀ (p : Params) (out : Bytes) (err : Err), out.length ≤ 16 * budgetBlocks p.budget →
    LegalResult p ⟨wrap out, err, false⟩

theorem legalWrap_bytes : LegalWrap .bytes := fun _ _ _ h => ⟨rfl, h⟩

theorem legalWrap_text : LegalWrap decodedText := fun _ _ _ _ => rfl

/-- A stream read, issued or resuming. -/
theorem readOperation_linkStep {wrap : Bytes → Val} (hop : isProtocolOp op = true) (hprobe : op ≠ .isCardPresent)
    (hwrap : LegalWrap wrap)
    (h : linkOperation op s (fun u => gated (wrap []) u (readFrom op wrap 0 [])) (readResume op wrap) = .next t) :
    LinkStep s op t := by
  rcases linkOperation_next h with ⟨hr, hl, hg⟩ | ⟨hr, ⟨a, hl⟩, rfl⟩ | ⟨loc, hs, hres⟩ | ⟨loc, ht, hz, rfl⟩
  · rcases gated_next hg with ⟨hc, hw⟩ | ⟨-, rfl⟩
    · rcases readFrom_next hw with ⟨-, rfl⟩ | ⟨b, hb, rfl⟩
      · exact .endsAtOnce hop ⟨hr, hl⟩ (absurd · hprobe) (hwrap _ _ _ (Nat.zero_le _))
      · have hstart := LinkStep.starts hop ⟨hr, hl⟩ hc (localsFit_start _ [])
          (emittedFrame_blockRead (blockSeq_getElem? hb).2)
        rwa [← buildBlockRead_txBuf b s] at hstart
    · exact .endsAtOnce hop ⟨hr, hl⟩ (absurd · hprobe) (hwrap _ _ _ (Nat.zero_le _))
  · exact .waits hr hl
  · obtain ⟨fifo, hfifo, hread⟩ := readExactly_drains 22 s
    rcases readResume_next hres with ⟨e, -, rfl⟩ | ⟨blk, j, hblk, -, rfl⟩ | ⟨blk, hblk, -, hgo⟩
    · rw [hread]
      exact .answers hop hs hfifo (absurd · hprobe) fun ⟨hk, hout⟩ => hwrap _ _ _ (by omega)
    · rw [hread]
      have hlen := length_of_parseReadRsp_ok hblk
      refine .answers hop hs hfifo (absurd · hprobe) fun ⟨hk, hout⟩ => hwrap _ _ _ ?_
      rw [List.length_append, List.length_take]
      omega
    · have hlen := length_of_parseReadRsp_ok hblk
      rw [hread] at hgo
      rcases readFrom_next hgo with ⟨-, rfl⟩ | ⟨b, hb, rfl⟩
      · refine .answers hop hs hfifo (absurd · hprobe) fun ⟨hk, hout⟩ => hwrap _ _ _ ?_
        rw [List.length_append]
        omega
      · obtain ⟨hk, hb⟩ := blockSeq_getElem? hb
        have hfit : LocalsFit s.cfg loc → LocalsFit s.cfg ⟨loc.k + 1, loc.out ++ blk, []⟩ :=
          fun ⟨_, hout⟩ => ⟨hk, by rw [List.length_append, Nat.mul_succ]; exact Nat.add_le_add hout hlen⟩
        have hgoes := LinkStep.goesOn hop hs hfifo hfit (emittedFrame_blockRead hb)
        rwa [← buildBlockRead_txBuf b s] at hgoes
  · exact .settling ht hz

end Streams

/-! ### All link operations -/

theorem execQueryUid_linkStep {s t : State} (h : execQueryUid s = .next t) : LinkStep s .queryUid t := by
  rcases linkOperation_next h with ⟨hr, hl, hg⟩ | ⟨hr, ⟨a, hl⟩, rfl⟩ | ⟨loc, hs, hres⟩ | ⟨loc, ht, hz, rfl⟩
  · rcases gated_next hg with ⟨hc, hgo⟩ | ⟨-, rfl⟩
    · cases hgo
      exact .starts rfl ⟨hr, hl⟩ hc (localsFit_start _ _) (emittedFrame_uidQuery _)
    · exact .endsAtOnce rfl ⟨hr, hl⟩ nofun rfl
  · exact .waits hr hl
  · obtain ⟨fifo, hfifo, hread⟩ := readExactly_drains 12 s
    have hjudged : queryUidJudged _ (readExactly 12 s).2 = .next t := hres
    rw [hread, queryUidJudged_eq] at hjudged
    split at hjudged
    · cases hjudged; exact .answers rfl hs hfifo nofun fun _ => rfl
    · cases hjudged; exact .readsUid hs hfifo
  · exact .settling ht hz

/-- The end of POLL's detection, whatever the lock was. -/
theorem endProbe_poll {s : State} (ha : s.current = .poll) (err : Err) :
    endProbe err s = detectAnswered (err == .ok) (probeOver s) := endProbe_of_poll ha err

theorem legalResult_probe (p : Params) (err : Err) : LegalResult p ⟨.bool (err == .ok), err, false⟩ := by
  cases err <;> simp [LegalResult]

theorem execIsCardPresent_linkStep {s t : State} (h : execIsCardPresent s = .next t) :
    LinkStep s .isCardPresent t := by
  rcases linkOperation_next h with ⟨hr, hl, hg⟩ | ⟨hr, ⟨a, hl⟩, rfl⟩ | ⟨loc, hs, hres⟩ | ⟨loc, ht, hz, rfl⟩
  · rcases ite_cases hg with ⟨hc, hgo⟩ | ⟨hc, hgo⟩ <;> cases hgo
    · exact .starts rfl ⟨hr, hl⟩ hc (localsFit_start _ _) (emittedFrame_uidQuery _)
    · by_cases ha : s.current = .poll
      · rw [endProbe_poll (s := { s with linkLock := .held s.current }) ha]
        exact .probeGated ha ⟨hr, hl⟩ (Bool.not_eq_true _ ▸ hc)
      · rw [endProbe_of_ne_poll (s := { s with linkLock := .held s.current }) ha]
        exact .endsAtOnce rfl ⟨hr, hl⟩ (fun _ => ha) (legalResult_probe _ _)
  · exact .waits hr hl
  · obtain ⟨fifo, hfifo, hread⟩ := readExactly_drains 12 s
    have hverdict := probeError_readExactly s
    have hend : endProbe (probeError (parseUidRsp (readExactly 12 s).2.cfg.validateRx (readExactly 12 s).1))
      (readExactly 12 s).2 = t := Host.Outcome.next.inj hres
    generalize probeError _ = err at hverdict hend
    rw [hread] at hend
    by_cases ha : s.current = .poll
    · rw [endProbe_poll (s := { s with rxFifo := fifo }) ha] at hend
      exact hend ▸ .probeJudged ha hs hfifo hverdict
    · rw [endProbe_of_ne_poll (s := { s with rxFifo := fifo }) ha] at hend
      exact hend ▸ .answers rfl hs hfifo (fun _ => ha) fun _ => legalResult_probe _ _
  · exact .settling ht hz

/-- INIT, DISCONNECT and RECONNECT end in the step that grants them the lock, and never wait a settle delay. -/
theorem controlOperation_linkStep {op : Instr} {s t : State} {granted : State → Out}
    (h : linkOperation op s granted (fun _ _ => .refused .operationInProgress) = .next t)
    (hgrant : Granted s op → granted { s with linkLock := .held s.current } = .next t → LinkStep s op t) :
    LinkStep s op t := by
  rcases linkOperation_next h with ⟨hr, hl, hg⟩ | ⟨hr, ⟨a, hl⟩, rfl⟩ | ⟨loc, -, hres⟩ | ⟨loc, ht, hz, rfl⟩
  · exact hgrant ⟨hr, hl⟩ hg
  · exact .waits hr hl
  · cases hres
  · exact .settling ht hz

/-- A step of a link operation is one of those that `LinkStep` lists. -/
theorem exec_linkStep {i : Instr} {s t : State} (hi : isLinkOp i = true) (h : exec i s = .next t) :
    LinkStep s i t := by
  cases i with
  | init tx rx =>
    refine controlOperation_linkStep h fun hg hend => ?_
    cases hend
    exact .configures hg
  | disconnect =>
    refine controlOperation_linkStep h fun hg hend => ?_
    cases hend
    exact .disconnects hg
  | reconnect =>
    refine controlOperation_linkStep h fun hg _ => ?_
    rw [exec_reconnect_granted hg.1 hg.2] at h
    cases h
    exact .reconnects hg
  | queryUid => exact execQueryUid_linkStep h
  | isCardPresent => exact execIsCardPresent_linkStep h
  | writeText text => exact writeOperation_linkStep rfl nofun h
  | readText => exact readOperation_linkStep rfl nofun legalWrap_text h
  | writeBytes data => exact writeOperation_linkStep rfl nofun h
  | readBytes => exact readOperation_linkStep rfl nofun legalWrap_bytes h
  | _ => cases hi

end Sys2Proof.Machine
end


-- ==== Sys2Proof/Proofs/StepCases.lean ====
section
/-!
What one instruction and what one step of the machine can do: `ExecStep` and `Move` list the cases, `exec_execStep` and
`step_move` say that there are no others. A claim about every instruction or every step is then one proof for each case.
-/

namespace Sys2Proof.Machine

/-! ### Instructions -/

/-- The ways an instruction can change the state of the machine. -/
inductive ExecStep (s : State) : Instr → State → Prop
  /-- A step of an operation that takes the lock. -/
  | link {i : Instr} {t : State} : isLinkOp i = true → LinkStep s i t → ExecStep s i t
  /-- REGISTER_HANDLER. -/
  | registers {ref : HandlerRef} : taskOf s s.current = none →
      ExecStep s (.registerHandler ref) (returnResult doneResult { s with handler := ref, handlerValid := true })
  /-- IS_INITIALIZED. -/
  | reports : taskOf s s.current = none →
      ExecStep s .isInitialized (returnResult ⟨.bool s.conn, .ok, false⟩ s)
  /-- HANDLER_DONE. -/
  | finishes : s.current = .handler → s.pollState = .dispatching → taskOf s .handler = none →
      ExecStep s .handlerDone (returnResult doneResult (eventReturn s))
  /-- A request frame goes out, and what SIMPARTNER answers, if it is there, arrives. -/
  | sends {i : Instr} {fifo : Bytes} {tag : Memory} : isRequestFrame i = true → s.linkLock ≠ .free →
      fifo.length ≤ s.cfg.rxCapacity → (memoryWf s.tag = true → memoryWf tag = true) →
      ExecStep s i { s with wire := frameBytes i :: s.wire, txBuf := [], rxFifo := fifo,
                            rxCap := s.cfg.rxCapacity, tag := tag }
  /-- A response frame arrives. -/
  | arrives {i : Instr} {bytes : Bytes} : isHostOp i = false → isRequestFrame i = false →
      ExecStep s i (deliver bytes s)

/-- SIMPARTNER keeps TAG in canonical form. -/
theorem memoryWf_simReply (card : Option Uid) {tag : Memory} (frame : Bytes) (h : memoryWf tag = true) :
    memoryWf (simReply card tag frame).2 = true := by
  unfold simReply
  split
  · exact h
  · split
    · exact h
    · exact h
    · exact memoryWf_writeBlock h
    · exact h

/-- A delivery never overfills RX_FIFO. -/
theorem deliver_fits {bytes : Bytes} {s : State} (h : s.rxFifo.length ≤ s.rxCap) :
    (deliver bytes s).rxFifo.length ≤ (deliver bytes s).rxCap := by
  rw [deliver_eq]
  simp only [List.length_append, List.length_take]
  omega

/-- The frame in TX_BUF goes out after RxReset: the line, the buffers and TAG are written, and nothing else. -/
theorem linkWrite_rxReset (s : State) : ∃ fifo tag, fifo.length ≤ s.cfg.rxCapacity ∧
    (memoryWf s.tag = true → memoryWf tag = true) ∧
    linkWrite (rxReset s) = { s with wire := s.txBuf :: s.wire, txBuf := [], rxFifo := fifo,
                                     rxCap := s.cfg.rxCapacity, tag := tag } := by
  unfold linkWrite partnerReacts
  split
  next => exact ⟨[], s.tag, Nat.zero_le _, id, rfl⟩
  next card _ =>
    refine ⟨_, (simReply card s.tag s.txBuf).2, ?_, memoryWf_simReply card s.txBuf, deliver_eq _ _⟩
    simp

/-- A request frame that goes out is sent as it was built. -/
theorem sends_of_transmit {i : Instr} {s u t : State} (hi : isRequestFrame i = true)
    (hu : u = { s with txBuf := frameBytes i }) (h : transmit u = .next t) : ExecStep s i t := by
  obtain ⟨-, hl, rfl⟩ := transmit_next h
  obtain ⟨fifo, tag, hfifo, htag, hw⟩ := linkWrite_rxReset u
  rw [hw, hu]
  rw [hu] at hl hfifo htag
  exact .sends hi hl hfifo htag

/-- An instruction does what `ExecStep` lists for it. -/
theorem exec_execStep {i : Instr} {s t : State} (h : exec i s = .next t) : ExecStep s i t := by
  by_cases hi : isLinkOp i = true
  · exact .link hi (exec_linkStep hi h)
  cases i with
  | registerHandler ref =>
    rw [exec, execRegisterHandler] at h
    obtain ⟨hidle, hrun⟩ := freeOperation_next h
    cases hrun
    exact .registers hidle
  | isInitialized =>
    rw [exec, execIsInitialized] at h
    obtain ⟨hidle, hrun⟩ := freeOperation_next h
    cases hrun
    exact .reports hidle
  | handlerDone =>
    obtain ⟨hcur, hd, hidle, rfl⟩ := execHandlerDone_next h
    exact .finishes hcur hd hidle
  | uidQuery => exact sends_of_transmit rfl rfl h
  | blockRead b => exact sends_of_transmit rfl (by rw [← buildBlockRead_txBuf b s]; rfl) h
  | blockWrite b d => exact sends_of_transmit rfl rfl (execBlockWrite_next h).2
  | uidRsp head uid chk => cases h; exact .arrives rfl rfl
  | ackRsp head ack mid chk => cases h; exact .arrives rfl rfl
  | readRsp head data chk => cases h; exact .arrives rfl rfl
  | _ => exact absurd rfl hi

/-! ### Steps -/

/-- The environment's move has been taken, and an agent may have been picked: only the model's own bookkeeping of the
schedule differs. -/
def Scheduled (s u : State) : Prop :=
  ∃ evs n a, u = { s with events := evs, drawn := n, current := a }

/-- The current agent issues the host operation `i`, or is inside it. -/
def Runs (u : State) (i : Instr) : Prop :=
  (taskOf u u.current = none ∧ isHostOp i = true ∧ canIssue u u.current = true) ∨
    ∃ phase, taskOf u u.current = some ⟨i, phase⟩

/-- The ways a step can change the state of the machine. -/
inductive Move (s : State) : State → Prop
  /-- The frame in TX_BUF goes out. -/
  | frame {fifo : Bytes} {tag : Memory} : s.txBuf ≠ [] → s.linkLock ≠ .free → fifo.length ≤ s.cfg.rxCapacity →
      (memoryWf s.tag = true → memoryWf tag = true) →
      Move s { s with wire := s.txBuf :: s.wire, txBuf := [], rxFifo := fifo, rxCap := s.cfg.rxCapacity, tag := tag }
  /-- An agent other than POLL issues an operation or goes on with it. -/
  | operation {u t : State} {i : Instr} : s.txBuf = [] → Scheduled s u → u.current ≠ .poll → Runs u i →
      ExecStep u i t → Move s t
  /-- POLL's tick starts a detection. -/
  | tick {u t : State} : s.txBuf = [] → Scheduled s u → u.current = .poll → s.doneSignal = false →
      s.pollState = .idle → s.pollTimer = 0 → s.conn = true → s.handlerValid = true → s.busy = false →
      LinkStep { u with pollState := .detecting } .isCardPresent t → Move s t
  /-- POLL goes on with its detection. -/
  | detection {u t : State} : s.txBuf = [] → Scheduled s u → u.current = .poll → s.doneSignal = false →
      s.pollState = .detecting → LinkStep u .isCardPresent t → Move s t
  /-- POLL starts its interval. -/
  | interval {u : State} : s.txBuf = [] → Scheduled s u → Move s (startInterval { u with doneSignal := false })
  /-- Bytes arrive. -/
  | delivery {u : State} {bytes : Bytes} : s.txBuf = [] → Scheduled s u → Move s (deliver bytes u)
  /-- Time passes, a card comes or goes, or nothing happens. -/
  | outside {u : State} {timer delay : Nat} {partner : Partner} : s.txBuf = [] → Scheduled s u →
      Move s { u with pollTimer := timer, settleTimer := delay, partner := partner }

/-- A request frame is no operation. -/
theorem isRequestFrame_excludes {i : Instr} (h : isRequestFrame i = true) :
    isLinkOp i = false ∧ isHostOp i = false := by
  cases i <;> cases h <;> exact ⟨rfl, rfl⟩

/-- What the decoder reads from a host request is a host operation. -/
theorem isHostOp_of_decodeHost {op : Byte} {args : List HostVal} {i : Instr} (h : decodeHost op args = .ok i) :
    isHostOp i = true := by
  have henc := encode_of_decodeHost h
  cases i <;> cases henc <;> rfl

/-- A step of POLL is one of those that `Move` lists. -/
theorem pollStep_move {s u t : State} (htx : s.txBuf = []) (hu : Scheduled s u) (ha : u.current = .poll)
    (h : pollStep u = .next t) : Move s t := by
  have hu' := hu
  obtain ⟨evs, n, a, rfl⟩ := hu'
  rcases pollStep_next h with ⟨-, rfl⟩ | ⟨hd, hi, hz, hc, hp⟩ | ⟨hd, -, -, -, rfl⟩ | ⟨hd, hp, -, hprobe⟩ | ⟨-, rfl⟩
  · exact .interval htx hu
  · obtain ⟨⟨hconn, hvalid⟩, hbusy⟩ : (s.conn = true ∧ s.handlerValid = true) ∧ s.busy = false := by
      simpa [tickCondition, eventEnabled, eventMasked] using hc
    exact .tick htx hu ha hd hi hz hconn hvalid hbusy (execIsCardPresent_linkStep hp)
  · have hint := Move.interval htx hu
    have hd : s.doneSignal = false := hd
    rwa [← hd] at hint
  · exact .detection htx hu ha hd hp (execIsCardPresent_linkStep hprobe)
  · exact .outside htx hu

/-- A move of the environment is one of those that `Move` lists. -/
theorem stepEvent_move {e : Event} {s t : State} {evs : List Event} {n : Nat} (htx : s.txBuf = [])
    (h : stepEvent e { s with events := evs, drawn := n } = .next t) : Move s t := by
  have scheduled (a : Agent) : Scheduled s { s with events := evs, drawn := n, current := a } := ⟨evs, n, a, rfl⟩
  cases e with
  | request a op args =>
    rcases stepRequest_next h with rfl | ⟨i, hi, hidle, hissue, hexec⟩
    · exact .outside htx (scheduled s.current)
    · have hcan : canIssue { s with events := evs, drawn := n, current := a } a = true := by
        rcases hissue with rfl | hcan
        · obtain ⟨hcur, hd, -, -⟩ := execHandlerDone_next hexec
          have ha : a = .handler := hcur
          rw [ha, canIssue]
          exact beq_iff_eq.mpr hd
        · exact hcan
      refine .operation htx (scheduled a) ?_ (.inl ⟨hidle, isHostOp_of_decodeHost hi, hcan⟩) (exec_execStep hexec)
      rintro rfl
      cases hcan
  | run a =>
    rcases stepRun_next h with ⟨rfl, hpoll⟩ | rfl | ⟨task, ha, htask, hexec⟩
    · exact pollStep_move htx (scheduled .poll) rfl hpoll
    · exact .outside htx (scheduled s.current)
    · exact .operation htx (scheduled a) ha (.inr ⟨task.phase, htask⟩) (exec_execStep hexec)
  | receive bytes =>
    simp only [stepEvent, stepReceive_eq] at h
    rcases ite_cases h with ⟨-, h⟩ | ⟨-, h⟩ <;> cases h
    · exact .delivery htx (scheduled s.current)
    · exact .outside htx (scheduled s.current)
  | elapse d => cases h; exact .outside htx (scheduled s.current)
  | setCard card => rcases ite_cases h with ⟨-, h⟩ | ⟨-, h⟩ <;> cases h <;> exact .outside htx (scheduled s.current)

/-- A step is one of those that `Move` lists. -/
theorem step_move {s t : State} (h : step s = .next t) : Move s t := by
  by_cases htx : s.txBuf = []
  · obtain ⟨e, evs, n, hstep⟩ := step_event htx
    exact stepEvent_move htx (hstep ▸ h)
  · rw [step_frame htx, stepFrame] at h
    split at h
    next => cases h
    next i hi =>
      have hreq : isRequestFrame i = true := decodeRequest_isRequestFrame hi
      have hframe : frameBytes i = s.txBuf := by rw [frameBytes, (decodeRequest_ok_iff.mp hi).2]
      cases exec_execStep h with
      | sends _ hl hfifo htag => rw [hframe]; exact .frame htx hl hfifo htag
      | link hlink => rw [(isRequestFrame_excludes hreq).1] at hlink; cases hlink
      | arrives _ hnot => rw [hreq] at hnot; cases hnot
      | _ => cases hreq

end Sys2Proof.Machine
end


-- ==== Sys2Proof/Proofs/LinkInvariant.lean ====
section
/-!
The link's invariant (20_memory.md R64, R65, 42_transport.md R183), and O53. A step of an operation can add or remove
one agent inside a settle delay, its own; the lock says of every other agent that there is none.
-/

namespace Sys2Proof.Machine

/-! ### What the invariant looks at -/

theorem taskOf_scheduled {s u : State} (h : Scheduled s u) (a : Agent) : taskOf u a = taskOf s a := by
  obtain ⟨evs, n, b, rfl⟩ := h
  exact taskOf_congr rfl rfl rfl a

@[simp] theorem taskOf_deliver (bytes : Bytes) (s : State) (a : Agent) : taskOf (deliver bytes s) a = taskOf s a := by
  rw [deliver_eq]
  exact taskOf_congr rfl rfl rfl a

@[simp] theorem taskOf_detectAnswered (present : Bool) (s : State) (a : Agent) :
    taskOf (detectAnswered present s) a = taskOf s a := by
  cases present <;> exact taskOf_congr rfl rfl rfl a

@[simp] theorem detectAnswered_linkLock (present : Bool) (s : State) :
    (detectAnswered present s).linkLock = s.linkLock := by cases present <;> rfl

@[simp] theorem detectAnswered_cfg (present : Bool) (s : State) : (detectAnswered present s).cfg = s.cfg := by
  cases present <;> rfl

theorem taskOf_probeOver_other (s : State) {a : Agent} (h : a ≠ .poll) : taskOf (probeOver s) a = taskOf s a := by
  cases a with
  | poll => exact absurd rfl h
  | _ => rfl

/-- The invariant speaks of the lock, CONN, the operations in progress and the parameters alone. -/
theorem linkInv_congr {s t : State} (h : LinkInv s) (hlock : t.linkLock = s.linkLock) (hconn : t.conn = s.conn)
    (htask : ∀ a, taskOf t a = taskOf s a) (hcfg : t.cfg = s.cfg) : LinkInv t where
  holderIff a := by rw [hlock, htask]; exact h.holderIff a
  heldConnected := by rw [hlock, hconn]; exact h.heldConnected
  linkOps a := by rw [htask]; exact h.linkOps a
  protocolOps a := by rw [htask]; exact h.protocolOps a
  cursorInRange a := by rw [htask, hcfg]; exact h.cursorInRange a

/-! ### One agent's operation changes -/

/-- The lock is held by no agent other than `a`. -/
def LockIsFor (s : State) (a : Agent) : Prop := ∀ b, s.linkLock = .held b → b = a

theorem lockIsFor_of_granted {s : State} {i : Instr} (h : Granted s i) (a : Agent) : LockIsFor s a := by
  intro b hb
  rw [h.2] at hb
  cases hb

/-- An agent inside a settle delay is the holder of the lock. -/
theorem linkLock_of_settled {s : State} {i : Instr} {loc : Locals} (h : LinkInv s) (hs : Settled s i loc) :
    s.linkLock = .held s.current := (h.holderIff s.current).mpr ⟨i, loc, hs.1⟩

theorem lockIsFor_of_settled {s : State} {i : Instr} {loc : Locals} (h : LinkInv s) (hs : Settled s i loc) :
    LockIsFor s s.current := by
  intro b hb
  rw [linkLock_of_settled h hs] at hb
  exact (LinkLock.held.inj hb).symm

/-- An agent that is ready is inside no settle delay. -/
theorem not_settling_of_ready {s : State} {i j : Instr} (hr : Ready s i) (loc : Locals) :
    taskOf s s.current ≠ some ⟨j, .settle loc⟩ := by
  rcases hr with h | h <;> rw [h] <;> nofun

theorem isLinkOp_of_isProtocolOp {i : Instr} (h : isProtocolOp i = true) : isLinkOp i = true := by
  cases i <;> cases h <;> rfl

section OneAgent

variable {s t : State} {a : Agent}

/-- Agent `a` waits for the lock. -/
theorem linkInv_of_waiting {i : Instr} (h : LinkInv s) (hi : isLinkOp i = true)
    (hnot : ∀ op loc, taskOf s a ≠ some ⟨op, .settle loc⟩) (hlock : t.linkLock = s.linkLock)
    (hconn : t.conn = s.conn) (hcfg : t.cfg = s.cfg) (hself : taskOf t a = some ⟨i, .lockWait⟩)
    (hothers : ∀ b, b ≠ a → taskOf t b = taskOf s b) : LinkInv t := by
  have hsettle (b : Agent) (op : Instr) (loc : Locals) :
      taskOf t b = some ⟨op, .settle loc⟩ ↔ taskOf s b = some ⟨op, .settle loc⟩ := by
    by_cases hb : b = a
    · subst hb
      rw [hself]
      exact ⟨nofun, fun hs => absurd hs (hnot op loc)⟩
    · rw [hothers b hb]
  refine ⟨fun b => ?_, ?_, fun b task hb => ?_, fun b op loc hb => ?_, fun b op loc hb => ?_⟩
  · simp only [hlock, hsettle]
    exact h.holderIff b
  · rw [hlock, hconn]
    exact h.heldConnected
  · by_cases hba : b = a
    · subst hba
      rw [hself] at hb
      cases hb
      exact hi
    · exact h.linkOps b task (hothers b hba ▸ hb)
  · exact h.protocolOps b op loc ((hsettle b op loc).mp hb)
  · rw [hcfg]
    exact h.cursorInRange b op loc ((hsettle b op loc).mp hb)

/-- With the lock held by nobody but `a`, no other agent is inside a settle delay. -/
theorem not_settling_of_lockIsFor (h : LinkInv s) (hfor : LockIsFor s a) {b : Agent} (hb : b ≠ a) (op : Instr)
    (loc : Locals) : taskOf s b ≠ some ⟨op, .settle loc⟩ :=
  fun htask => hb (hfor b ((h.holderIff b).mpr ⟨op, loc, htask⟩))

/-- Agent `a` holds the lock and starts a settle delay. -/
theorem linkInv_of_settling {i : Instr} {loc : Locals} (h : LinkInv s) (hfor : LockIsFor s a)
    (hi : isProtocolOp i = true) (hfit : LocalsFit s.cfg loc) (hconn : t.conn = true) (hcfg : t.cfg = s.cfg)
    (hlock : t.linkLock = .held a) (hself : taskOf t a = some ⟨i, .settle loc⟩)
    (hothers : ∀ b, b ≠ a → taskOf t b = taskOf s b) : LinkInv t := by
  have hsettle {b : Agent} {op : Instr} {loc' : Locals} (hb : taskOf t b = some ⟨op, .settle loc'⟩) :
      b = a ∧ op = i ∧ loc' = loc := by
    by_cases hba : b = a
    · subst hba
      rw [hself] at hb
      cases hb
      exact ⟨rfl, rfl, rfl⟩
    · exact absurd (hothers b hba ▸ hb) (not_settling_of_lockIsFor h hfor hba op loc')
  refine ⟨fun b => ⟨fun hb => ?_, fun ⟨op, loc', hb⟩ => ?_⟩, fun _ => hconn, fun b task hb => ?_,
    fun b op loc' hb => ?_, fun b op loc' hb => ?_⟩
  · rw [hlock] at hb
    cases hb
    exact ⟨i, loc, hself⟩
  · rw [hlock, (hsettle hb).1]
  · by_cases hba : b = a
    · subst hba
      rw [hself] at hb
      cases hb
      exact isLinkOp_of_isProtocolOp hi
    · exact h.linkOps b task (hothers b hba ▸ hb)
  · rw [(hsettle hb).2.1]
    exact hi
  · rw [(hsettle hb).2.2, hcfg]
    exact hfit

/-- Agent `a` ends its operation with the lock given up. -/
theorem linkInv_of_ended (h : LinkInv s) (hfor : LockIsFor s a) (hlock : t.linkLock = .free)
    (hself : taskOf t a = none) (hothers : ∀ b, b ≠ a → taskOf t b = taskOf s b) : LinkInv t := by
  have hnone (b : Agent) (op : Instr) (loc : Locals) : taskOf t b ≠ some ⟨op, .settle loc⟩ := by
    by_cases hb : b = a
    · subst hb
      rw [hself]
      nofun
    · rw [hothers b hb]
      exact not_settling_of_lockIsFor h hfor hb op loc
  refine ⟨fun b => ⟨fun hb => ?_, fun ⟨op, loc, hb⟩ => absurd hb (hnone b op loc)⟩, absurd hlock, fun b task hb => ?_,
    fun b op loc hb => absurd hb (hnone b op loc), fun b op loc hb => absurd hb (hnone b op loc)⟩
  · rw [hlock] at hb
    cases hb
  · by_cases hba : b = a
    · subst hba
      rw [hself] at hb
      cases hb
    · exact h.linkOps b task (hothers b hba ▸ hb)

end OneAgent

/-- An operation whose agent holds the lock starts a settle delay. -/
theorem linkInv_awaitResponse {s u : State} {i : Instr} {loc : Locals} (h : LinkInv s) (hfor : LockIsFor s u.current)
    (hi : isProtocolOp i = true) (hfit : LocalsFit s.cfg loc) (hconn : u.conn = true) (hcfg : u.cfg = s.cfg)
    (hlock : u.linkLock = .held u.current) (hu : ∀ b, taskOf u b = taskOf s b) : LinkInv (awaitResponse i loc u) :=
  linkInv_of_settling h hfor hi hfit ((awaitResponse_conn _ _ _).trans hconn) ((awaitResponse_cfg _ _ _).trans hcfg)
    ((awaitResponse_linkLock _ _ _).trans hlock) (taskOf_awaitResponse_self _ _ _)
    fun b hb => (taskOf_awaitResponse_other _ _ _ hb).trans (hu b)

/-- An operation that ends has given up the lock and left its agent inside nothing. -/
theorem linkInv_endOperation {s u : State} (r : Result) (h : LinkInv s) (hfor : LockIsFor s u.current)
    (hu : ∀ b, taskOf u b = taskOf s b) : LinkInv (endOperation r u) :=
  linkInv_of_ended h hfor (endOperation_linkLock r u) (taskOf_endOperation_self r u)
    fun b hb => (taskOf_endOperation_other r u hb).trans (hu b)

/-- POLL's detection that ends has given up the lock likewise. -/
theorem linkInv_probeOver {s u : State} (present : Bool) (h : LinkInv s) (hfor : LockIsFor s .poll)
    (hu : ∀ b, taskOf u b = taskOf s b) : LinkInv (detectAnswered present (probeOver u)) :=
  linkInv_of_ended h hfor (detectAnswered_linkLock _ _) (taskOf_detectAnswered _ _ _)
    fun b hb => (taskOf_detectAnswered _ _ _).trans ((taskOf_probeOver_other u hb).trans (hu b))

/-! ### Instructions and steps -/

/-- A step of a link operation keeps the invariant. -/
theorem linkStep_keeps_linkInv {s t : State} {i : Instr} (hi : isLinkOp i = true) (h : LinkInv s)
    (hstep : LinkStep s i t) : LinkInv t := by
  cases hstep with
  | waits hr _ =>
    exact linkInv_of_waiting h hi (fun _ => not_settling_of_ready hr) (setTask_linkLock _ _ _) (setTask_conn _ _ _)
      (setTask_cfg _ _ _) (taskOf_setTask_self _ _ _) fun _ => taskOf_setTask_other _ _
  | settling => exact h
  | configures hg => exact linkInv_endOperation _ h (lockIsFor_of_granted hg _) fun _ => rfl
  | disconnects hg => exact linkInv_endOperation _ h (lockIsFor_of_granted hg _) fun _ => rfl
  | reconnects hg => exact linkInv_endOperation _ h (lockIsFor_of_granted hg _) fun _ => rfl
  | endsAtOnce _ hg => exact linkInv_endOperation _ h (lockIsFor_of_granted hg _) fun _ => rfl
  | starts hop hg hc hfit =>
    exact linkInv_awaitResponse h (lockIsFor_of_granted hg _) hop hfit hc rfl rfl fun _ => rfl
  | answers _ hs => exact linkInv_endOperation _ h (lockIsFor_of_settled h hs) fun _ => rfl
  | readsUid hs => exact linkInv_endOperation _ h (lockIsFor_of_settled h hs) fun _ => rfl
  | goesOn hop hs _ hfit =>
    have hlock := linkLock_of_settled h hs
    have hconn : s.conn = true := h.heldConnected (by rw [hlock]; nofun)
    exact linkInv_awaitResponse h (lockIsFor_of_settled h hs) hop (hfit (h.cursorInRange _ _ _ hs.1)) hconn rfl hlock
      fun _ => rfl
  | probeGated ha hg _ => exact linkInv_probeOver _ h (lockIsFor_of_granted hg _) fun _ => rfl
  | probeJudged ha hs _ _ => exact linkInv_probeOver _ h (ha ▸ lockIsFor_of_settled h hs) fun _ => rfl

/-- Every instruction keeps the invariant. -/
theorem execStep_keeps_linkInv {s t : State} {i : Instr} (h : LinkInv s) (hstep : ExecStep s i t) : LinkInv t := by
  cases hstep with
  | link hi hlink => exact linkStep_keeps_linkInv hi h hlink
  | registers => exact linkInv_congr h rfl rfl (fun _ => rfl) rfl
  | reports => exact linkInv_congr h rfl rfl (fun _ => rfl) rfl
  | finishes => exact linkInv_congr h rfl rfl (fun _ => rfl) rfl
  | sends => exact linkInv_congr h rfl rfl (fun _ => rfl) rfl
  | arrives => rw [deliver_eq]; exact linkInv_congr h rfl rfl (fun _ => rfl) rfl

theorem linkInv_scheduled {s u : State} (hu : Scheduled s u) (h : LinkInv s) : LinkInv u := by
  obtain ⟨evs, n, a, rfl⟩ := hu
  exact linkInv_congr h rfl rfl (fun _ => rfl) rfl

/-- Settles O53, case by case of `Move`: an operation by `execStep_keeps_linkInv`, and the other moves touch nothing
that the invariant speaks of. -/
theorem everyStepKeepsTheLinkInvariant : Obligations.EveryStepKeepsTheLinkInvariant := by
  intro s t h hstep
  cases step_move hstep with
  | frame => exact linkInv_congr h rfl rfl (fun _ => rfl) rfl
  | operation _ hu _ _ hexec => exact execStep_keeps_linkInv (linkInv_scheduled hu h) hexec
  | tick _ hu _ _ _ _ _ _ _ hlink =>
    refine linkStep_keeps_linkInv rfl ?_ hlink
    exact linkInv_congr (linkInv_scheduled hu h) rfl rfl (fun _ => rfl) rfl
  | detection _ hu _ _ _ hlink => exact linkStep_keeps_linkInv rfl (linkInv_scheduled hu h) hlink
  | interval _ hu => exact linkInv_congr (linkInv_scheduled hu h) rfl rfl (fun _ => rfl) rfl
  | delivery _ hu => rw [deliver_eq]; exact linkInv_congr (linkInv_scheduled hu h) rfl rfl (fun _ => rfl) rfl
  | outside _ hu => exact linkInv_congr (linkInv_scheduled hu h) rfl rfl (fun _ => rfl) rfl

end Sys2Proof.Machine
end


-- ==== Sys2Proof/Proofs/BufferInvariant.lean ====
section
/-!
The buffers' invariant (10_state.md R32, R33, 20_memory.md R51, R52), and O54. An operation only ever drains RX_FIFO
and puts a frame of BLOCK_SEQ or the UID query into an empty TX_BUF, under the lock; only such a frame is sent.
-/

namespace Sys2Proof.Machine

/-- TX_BUF is empty, or holds a frame that the block may emit, with the lock held. -/
def Pending (s : State) : Prop := s.txBuf = [] ∨ (s.linkLock ≠ .free ∧ EmittedFrame s.cfg s.txBuf)

/-- The invariant of a state that has drained RX_FIFO, or left it, and whose TX_BUF is in order. -/
theorem bufferInv_of_drained {s t : State} (h : BufferInv s) (hfifo : Drained s t.rxFifo) (hcap : t.rxCap = s.rxCap)
    (hcfg : t.cfg = s.cfg) (hwire : t.wire = s.wire) (hpending : Pending t) : BufferInv t where
  fits := by
    rcases hfifo with hf | hf <;> rw [hf, hcap]
    · exact h.fits
    · exact Nat.zero_le _
  capacity := by rw [hcap, hcfg]; exact h.capacity
  pending := hpending
  sent := by rw [hwire, hcfg]; exact h.sent

/-- A move that touches neither the buffers nor the lock. -/
theorem bufferInv_congr {s t : State} (h : BufferInv s) (hfifo : t.rxFifo = s.rxFifo) (hcap : t.rxCap = s.rxCap)
    (hcfg : t.cfg = s.cfg) (hwire : t.wire = s.wire) (htx : t.txBuf = s.txBuf) (hlock : t.linkLock = s.linkLock) :
    BufferInv t :=
  bufferInv_of_drained h (.inl hfifo) hcap hcfg hwire (by rw [Pending, htx, hlock, hcfg]; exact h.pending)

theorem bufferInv_deliver {s : State} (bytes : Bytes) (h : BufferInv s) : BufferInv (deliver bytes s) where
  fits := deliver_fits h.fits
  capacity := by rw [deliver_eq]; exact h.capacity
  pending := by rw [deliver_eq]; exact h.pending
  sent := by rw [deliver_eq]; exact h.sent

/-! ### Ends and frames of an operation -/

theorem bufferInv_endOperation {s u : State} (r : Result) (h : BufferInv s) (hfifo : Drained s u.rxFifo)
    (hcap : u.rxCap = s.rxCap) (hcfg : u.cfg = s.cfg) (hwire : u.wire = s.wire) (htx : u.txBuf = []) :
    BufferInv (endOperation r u) :=
  bufferInv_of_drained h (by simpa using hfifo) (by simpa using hcap) (by simpa using hcfg) (by simpa using hwire)
    (.inl (by simpa using htx))

theorem bufferInv_awaitResponse {s u : State} {i : Instr} {loc : Locals} (h : BufferInv s)
    (hfifo : Drained s u.rxFifo) (hcap : u.rxCap = s.rxCap) (hcfg : u.cfg = s.cfg) (hwire : u.wire = s.wire)
    (hlock : u.linkLock ≠ .free) (hf : EmittedFrame u.cfg u.txBuf) : BufferInv (awaitResponse i loc u) :=
  bufferInv_of_drained h (by simpa using hfifo) (by simpa using hcap) (by simpa using hcfg) (by simpa using hwire)
    (.inr (by simpa using And.intro hlock hf))

theorem bufferInv_detectAnswered {s u : State} (present : Bool) (h : BufferInv s) (hfifo : Drained s u.rxFifo)
    (hcap : u.rxCap = s.rxCap) (hcfg : u.cfg = s.cfg) (hwire : u.wire = s.wire) (htx : u.txBuf = []) :
    BufferInv (detectAnswered present u) := by
  cases present <;> exact bufferInv_of_drained h hfifo hcap hcfg hwire (.inl htx)

/-! ### Instructions and steps -/

/-- A step of a link operation with TX_BUF empty keeps the invariant. -/
theorem linkStep_keeps_bufferInv {s t : State} {i : Instr} (hlink : LinkInv s) (h : BufferInv s) (htx : s.txBuf = [])
    (hstep : LinkStep s i t) : BufferInv t := by
  cases hstep with
  | waits =>
    exact bufferInv_congr h (setTask_rxFifo _ _ _) (setTask_rxCap _ _ _) (setTask_cfg _ _ _) (setTask_wire _ _ _)
      (setTask_txBuf _ _ _) (setTask_linkLock _ _ _)
  | settling => exact h
  | configures => exact bufferInv_endOperation _ h (.inl rfl) rfl rfl rfl htx
  | disconnects => exact bufferInv_endOperation _ h (.inl rfl) rfl rfl rfl htx
  | reconnects => exact bufferInv_endOperation _ h (.inl rfl) rfl rfl rfl htx
  | endsAtOnce => exact bufferInv_endOperation _ h (.inl rfl) rfl rfl rfl htx
  | starts _ _ _ _ hf => exact bufferInv_awaitResponse h (.inl rfl) rfl rfl rfl nofun hf
  | answers _ _ hfifo => exact bufferInv_endOperation _ h hfifo rfl rfl rfl htx
  | readsUid _ hfifo => exact bufferInv_endOperation _ h hfifo rfl rfl rfl htx
  | goesOn _ hs hfifo _ hf =>
    have hheld : s.linkLock ≠ .free := by rw [linkLock_of_settled hlink hs]; nofun
    exact bufferInv_awaitResponse h hfifo rfl rfl rfl hheld hf
  | probeGated => exact bufferInv_detectAnswered _ h (.inl rfl) rfl rfl rfl htx
  | probeJudged _ _ hfifo => exact bufferInv_detectAnswered _ h hfifo rfl rfl rfl htx

/-- Sending a frame that the block may emit keeps the invariant. -/
theorem bufferInv_of_sent {s : State} {f fifo : Bytes} {tag : Memory} (h : BufferInv s) (hf : EmittedFrame s.cfg f)
    (hfifo : fifo.length ≤ s.cfg.rxCapacity) :
    BufferInv { s with wire := f :: s.wire, txBuf := [], rxFifo := fifo, rxCap := s.cfg.rxCapacity, tag := tag } where
  fits := hfifo
  capacity := rfl
  pending := .inl rfl
  sent := List.forall_mem_cons.mpr ⟨hf, h.sent⟩

/-- What an agent runs is a host operation: only link operations are ever in progress. -/
theorem isHostOp_of_runs {u : State} {i : Instr} (h : LinkInv u) (hrun : Runs u i) : isHostOp i = true := by
  rcases hrun with ⟨-, hi, -⟩ | ⟨phase, htask⟩
  · exact hi
  · have hi : isLinkOp i = true := h.linkOps _ _ htask
    cases i <;> cases hi <;> rfl

/-- A host operation with TX_BUF empty keeps the invariant. -/
theorem hostOp_keeps_bufferInv {s t : State} {i : Instr} (hlink : LinkInv s) (h : BufferInv s) (htx : s.txBuf = [])
    (hi : isHostOp i = true) (hstep : ExecStep s i t) : BufferInv t := by
  cases hstep with
  | link _ hstep => exact linkStep_keeps_bufferInv hlink h htx hstep
  | registers => exact bufferInv_congr h rfl rfl rfl rfl rfl rfl
  | reports => exact bufferInv_congr h rfl rfl rfl rfl rfl rfl
  | finishes => exact bufferInv_congr h rfl rfl rfl rfl rfl rfl
  | sends hframe => rw [(isRequestFrame_excludes hframe).2] at hi; cases hi
  | arrives hhost => rw [hi] at hhost; cases hhost

theorem bufferInv_scheduled {s u : State} (hu : Scheduled s u) (h : BufferInv s) : BufferInv u := by
  obtain ⟨evs, n, a, rfl⟩ := hu
  exact bufferInv_congr h rfl rfl rfl rfl rfl rfl

theorem txBuf_scheduled {s u : State} (hu : Scheduled s u) : u.txBuf = s.txBuf := by
  obtain ⟨evs, n, a, rfl⟩ := hu
  rfl

/-- Settles O54, case by case of `Move`: the frame that goes out is the pending one, and an operation finds TX_BUF
empty. -/
theorem everyStepKeepsTheBufferInvariant : Obligations.EveryStepKeepsTheBufferInvariant := by
  intro s t hlink h hstep
  cases step_move hstep with
  | frame htx _ hfifo _ => exact bufferInv_of_sent h (h.pending.resolve_left htx).2 hfifo
  | operation htx hu _ hrun hexec =>
    have hlink' := linkInv_scheduled hu hlink
    exact hostOp_keeps_bufferInv hlink' (bufferInv_scheduled hu h) ((txBuf_scheduled hu).trans htx)
      (isHostOp_of_runs hlink' hrun) hexec
  | tick htx hu _ _ _ _ _ _ _ hstep =>
    have htx' := (txBuf_scheduled hu).trans htx
    refine linkStep_keeps_bufferInv ?_ ?_ (by exact htx') hstep
    · exact linkInv_congr (linkInv_scheduled hu hlink) rfl rfl (fun _ => rfl) rfl
    · exact bufferInv_congr (bufferInv_scheduled hu h) rfl rfl rfl rfl rfl rfl
  | detection htx hu _ _ _ hstep =>
    exact linkStep_keeps_bufferInv (linkInv_scheduled hu hlink) (bufferInv_scheduled hu h)
      ((txBuf_scheduled hu).trans htx) hstep
  | interval _ hu => exact bufferInv_congr (bufferInv_scheduled hu h) rfl rfl rfl rfl rfl rfl
  | delivery _ hu => exact bufferInv_deliver _ (bufferInv_scheduled hu h)
  | outside _ hu => exact bufferInv_congr (bufferInv_scheduled hu h) rfl rfl rfl rfl rfl rfl

end Sys2Proof.Machine
end


-- ==== Sys2Proof/Proofs/DataInvariant.lean ====
section
/-!
The data's invariant (00_scope.md R9, 10_state.md R24, 30_encoding.md R105 to R107, 43_block_io.md R205), and O55; and
the invariants at reset, O49 and O51.
-/

namespace Sys2Proof.Machine

/-- The list of the hosts' operations is in order, and HOST_0, which does not exist, is not in it. -/
def HostsWf (tasks : List (Nat × Task)) : Prop := sparseSorted tasks = true ∧ ∀ c ∈ tasks, c.1 ≠ 0

theorem hostsWf_setTask {s : State} {a : Agent} (task : Option Task) (ha : a ≠ .host 0) (h : HostsWf s.hostTasks) :
    HostsWf (setTask s a task).hostTasks := by
  obtain ⟨hsorted, hexist⟩ := h
  cases a with
  | host k =>
    cases task with
    | none => exact ⟨sparseSorted_sparseDel hsorted, fun c hc => hexist c (mem_sparseDel hc)⟩
    | some task =>
      refine ⟨sparseSorted_sparsePut hsorted, fun c hc => ?_⟩
      rcases mem_sparsePut hc with rfl | hc
      · rintro rfl
        exact ha rfl
      · exact hexist c hc
  | handler => exact ⟨hsorted, hexist⟩
  | poll => exact ⟨hsorted, hexist⟩

/-- A listed operation is in the list. -/
theorem mem_of_sparseFind {α : Type} {l : List (Nat × α)} {k : Nat} {v : α} (h : sparseFind l k = some v) :
    (k, v) ∈ l := by
  induction l with
  | nil => cases h
  | cons c rest ih =>
    rcases ite_cases h with ⟨rfl, hv⟩ | ⟨-, hv⟩
    · cases hv
      exact List.mem_cons_self
    · exact List.mem_cons_of_mem _ (ih hv)

/-- The results returned so far, and perhaps one more, legal one. -/
def ReturnsLegally (s t : State) : Prop :=
  t.returns = s.returns ∨ ∃ a r, t.returns = (a, r) :: s.returns ∧ LegalResult s.cfg r

/-- The invariant of a state with the same parameters, whose other parts are in order. -/
theorem dataInv_update {s t : State} (h : DataInv s) (hcfg : t.cfg = s.cfg)
    (hconn : t.conn = true → t.cfgValid = true) (htag : memoryWf t.tag = true) (hhosts : HostsWf t.hostTasks)
    (hreturns : ReturnsLegally s t) : DataInv t where
  legal := hcfg ▸ h.legal
  connectedConfigured := hconn
  tagWf := htag
  hostsSorted := hhosts.1
  hostsExist := hhosts.2
  resultsLegal := by
    rw [hcfg]
    rcases hreturns with hr | ⟨a, r, hr, hlegal⟩ <;> rw [hr]
    · exact h.resultsLegal
    · exact List.forall_mem_cons.mpr ⟨hlegal, h.resultsLegal⟩

theorem dataInv_hostsWf {s : State} (h : DataInv s) : HostsWf s.hostTasks := ⟨h.hostsSorted, h.hostsExist⟩

/-- A move that leaves the registers and the operations in progress, and may write TAG or return a legal result. -/
theorem dataInv_sameRegisters {s t : State} (h : DataInv s) (hcfg : t.cfg = s.cfg) (hconn : t.conn = s.conn)
    (hvalid : t.cfgValid = s.cfgValid) (htag : memoryWf t.tag = true) (hhosts : t.hostTasks = s.hostTasks)
    (hreturns : ReturnsLegally s t) : DataInv t :=
  dataInv_update h hcfg (by rw [hconn, hvalid]; exact h.connectedConfigured) htag (hhosts ▸ dataInv_hostsWf h) hreturns

/-- A move that touches nothing the invariant speaks of. -/
theorem dataInv_congr {s t : State} (h : DataInv s) (hcfg : t.cfg = s.cfg) (hconn : t.conn = s.conn)
    (hvalid : t.cfgValid = s.cfgValid) (htag : t.tag = s.tag) (hhosts : t.hostTasks = s.hostTasks)
    (hreturns : t.returns = s.returns) : DataInv t :=
  dataInv_sameRegisters h hcfg hconn hvalid (htag ▸ h.tagWf) hhosts (.inl hreturns)

/-- An agent other than HOST_0 ends its operation with a legal result. -/
theorem dataInv_endOperation {s u : State} {r : Result} (h : DataInv s) (ha : u.current ≠ .host 0)
    (hcfg : u.cfg = s.cfg) (hconn : u.conn = true → u.cfgValid = true) (htag : u.tag = s.tag)
    (hhosts : u.hostTasks = s.hostTasks) (hreturns : u.returns = s.returns) (hr : LegalResult s.cfg r) :
    DataInv (endOperation r u) := by
  refine dataInv_update h (by simpa using hcfg) (by simpa using hconn) (by simpa [htag] using h.tagWf) ?_
    (.inr ⟨u.current, r, by simp [hreturns], hr⟩)
  exact hostsWf_setTask none ha (show HostsWf u.hostTasks from hhosts ▸ dataInv_hostsWf h)

/-- An agent other than HOST_0 starts a settle delay. -/
theorem dataInv_awaitResponse {s u : State} {i : Instr} {loc : Locals} (h : DataInv s) (ha : u.current ≠ .host 0)
    (hcfg : u.cfg = s.cfg) (hconn : u.conn = s.conn) (hvalid : u.cfgValid = s.cfgValid) (htag : u.tag = s.tag)
    (hhosts : u.hostTasks = s.hostTasks) (hreturns : u.returns = s.returns) :
    DataInv (awaitResponse i loc u) := by
  refine dataInv_update h (by simpa using hcfg) ?_ (by simpa [htag] using h.tagWf) ?_ (.inl (by simpa using hreturns))
  · simpa [hconn, hvalid] using h.connectedConfigured
  · exact hostsWf_setTask _ ha (show HostsWf u.hostTasks from hhosts ▸ dataInv_hostsWf h)

/-- A link operation of an agent other than HOST_0 keeps the invariant. -/
theorem linkStep_keeps_dataInv {s t : State} {i : Instr} (hlink : LinkInv s) (h : DataInv s)
    (ha : s.current ≠ .host 0) (hstep : LinkStep s i t) : DataInv t := by
  cases hstep with
  | waits =>
    refine dataInv_update h (setTask_cfg _ _ _) ?_ (by simpa using h.tagWf)
      (hostsWf_setTask _ ha (dataInv_hostsWf h)) (.inl (setTask_returns _ _ _))
    simpa using h.connectedConfigured
  | settling => exact h
  | configures => exact dataInv_endOperation h ha rfl (fun _ => rfl) rfl rfl rfl ⟨rfl, rfl⟩
  | disconnects => exact dataInv_endOperation h ha rfl nofun rfl rfl rfl ⟨rfl, rfl⟩
  | reconnects =>
    refine dataInv_endOperation h ha rfl (fun hc => ?_) rfl rfl rfl ⟨rfl, rfl⟩
    exact (Bool.or_eq_true_iff.mp hc).elim id h.connectedConfigured
  | endsAtOnce _ _ _ hr => exact dataInv_endOperation h ha rfl h.connectedConfigured rfl rfl rfl hr
  | starts => exact dataInv_awaitResponse h ha rfl rfl rfl rfl rfl rfl
  | answers _ hs _ _ hr =>
    exact dataInv_endOperation h ha rfl h.connectedConfigured rfl rfl rfl (hr (hlink.cursorInRange _ _ _ hs.1))
  | readsUid => exact dataInv_endOperation h ha rfl h.connectedConfigured rfl rfl rfl rfl
  | goesOn => exact dataInv_awaitResponse h ha rfl rfl rfl rfl rfl rfl
  | probeGated => exact dataInv_congr h rfl rfl rfl rfl rfl rfl
  | @probeJudged _ _ present =>
    cases present <;> exact dataInv_congr h rfl rfl rfl rfl rfl rfl

/-- An instruction keeps the invariant; a link operation, where its agent is not HOST_0. -/
theorem execStep_keeps_dataInv {s t : State} {i : Instr} (hlink : LinkInv s) (h : DataInv s)
    (ha : isLinkOp i = true → s.current ≠ .host 0) (hstep : ExecStep s i t) : DataInv t := by
  cases hstep with
  | link hi hstep => exact linkStep_keeps_dataInv hlink h (ha hi) hstep
  | registers =>
    exact dataInv_sameRegisters h rfl rfl rfl h.tagWf rfl (.inr ⟨_, _, rfl, rfl, rfl⟩)
  | reports =>
    exact dataInv_sameRegisters h rfl rfl rfl h.tagWf rfl (.inr ⟨_, _, rfl, fun _ => rfl⟩)
  | finishes =>
    exact dataInv_sameRegisters h rfl rfl rfl h.tagWf rfl (.inr ⟨_, _, rfl, rfl, rfl⟩)
  | sends _ _ _ htag =>
    exact dataInv_sameRegisters h rfl rfl rfl (htag h.tagWf) rfl (.inl rfl)
  | arrives => rw [deliver_eq]; exact dataInv_congr h rfl rfl rfl rfl rfl rfl

theorem dataInv_scheduled {s u : State} (hu : Scheduled s u) (h : DataInv s) : DataInv u := by
  obtain ⟨evs, n, a, rfl⟩ := hu
  exact dataInv_congr h rfl rfl rfl rfl rfl rfl

/-- HOST_0 runs nothing: it may not issue, and no operation of it is in progress. -/
theorem current_ne_host_zero {u : State} {i : Instr} (h : DataInv u) (hrun : Runs u i) : u.current ≠ .host 0 := by
  intro ha
  rcases hrun with ⟨-, -, hcan⟩ | ⟨phase, htask⟩
  · rw [ha] at hcan
    cases hcan
  · rw [ha] at htask
    exact h.hostsExist _ (mem_of_sparseFind htask) rfl

/-- Settles O55, case by case of `Move`. -/
theorem everyStepKeepsTheDataInvariant : Obligations.EveryStepKeepsTheDataInvariant := by
  intro s t hlink h hstep
  cases step_move hstep with
  | frame _ _ _ htag =>
    exact dataInv_sameRegisters h rfl rfl rfl (htag h.tagWf) rfl (.inl rfl)
  | operation _ hu _ hrun hexec =>
    have h' := dataInv_scheduled hu h
    exact execStep_keeps_dataInv (linkInv_scheduled hu hlink) h' (fun _ => current_ne_host_zero h' hrun) hexec
  | tick _ hu ha _ _ _ _ _ _ hstep =>
    refine linkStep_keeps_dataInv ?_ ?_ (by exact ha.trans_ne nofun) hstep
    · exact linkInv_congr (linkInv_scheduled hu hlink) rfl rfl (fun _ => rfl) rfl
    · exact dataInv_congr (dataInv_scheduled hu h) rfl rfl rfl rfl rfl rfl
  | detection _ hu ha _ _ hstep =>
    exact linkStep_keeps_dataInv (linkInv_scheduled hu hlink) (dataInv_scheduled hu h) (ha.trans_ne nofun) hstep
  | interval _ hu => exact dataInv_congr (dataInv_scheduled hu h) rfl rfl rfl rfl rfl rfl
  | delivery _ hu => rw [deliver_eq]; exact dataInv_congr (dataInv_scheduled hu h) rfl rfl rfl rfl rfl rfl
  | outside _ hu => exact dataInv_congr (dataInv_scheduled hu h) rfl rfl rfl rfl rfl rfl

/-! ### Reset -/

/-- No agent is inside an operation after reset. -/
theorem taskOf_reset (a : Agent) : taskOf State.reset a = none := by cases a <;> rfl

/-- The parameters after reset are legal, whatever the free value is (log 4). -/
theorem paramsLegal_reset : paramsLegal State.reset.cfg = true := by
  show paramsLegal resetParams = true
  unfold resetParams
  split
  next h => exact h
  next => decide

/-- Settles O49: the values are those of `State.reset`. -/
theorem resetLeavesTheStatedValues : Obligations.ResetLeavesTheStatedValues :=
  ⟨rfl, rfl, rfl, rfl, rfl, rfl, rfl, rfl, rfl, rfl, rfl, taskOf_reset, rfl⟩

/-- Settles O51: at reset the lock is free and every list is empty; the parameters are `paramsLegal_reset`. -/
theorem resetMeetsTheInvariant : Obligations.ResetMeetsTheInvariant where
  poll := ⟨by decide, by decide, by decide, nofun, nofun, nofun, fun h => absurd rfl h⟩
  link :=
    { holderIff := fun a => ⟨nofun, fun ⟨op, loc, h⟩ => by rw [taskOf_reset] at h; cases h⟩
      heldConnected := fun h => absurd rfl h
      linkOps := fun a t h => by rw [taskOf_reset] at h; cases h
      protocolOps := fun a op loc h => by rw [taskOf_reset] at h; cases h
      cursorInRange := fun a op loc h => by rw [taskOf_reset] at h; cases h }
  buffer := ⟨Nat.zero_le _, rfl, .inl rfl, nofun⟩
  data := ⟨paramsLegal_reset, nofun, rfl, rfl, nofun, nofun⟩

end Sys2Proof.Machine
end


-- ==== Sys2Proof/Proofs/PollInvariant.lean ====
section
/-!
The poll engine's invariant (10_state.md R35, 45_poll_loop.md R260, R268, 60_exceptions.md R319), and O52, O38 and O39.
An operation of another agent leaves POLL's registers, and HANDLER_DONE is the one exception; POLL itself moves by its
tick and by the answer of its detection.
-/

namespace Sys2Proof.Machine

/-! ### What a link operation leaves -/

/-- A link operation changes no operation in progress but its agent's. -/
theorem linkStep_others {s t : State} {i : Instr} (h : LinkStep s i t) {a : Agent} (ha : a ≠ s.current) :
    taskOf t a = taskOf s a := by
  cases h with
  | waits => exact taskOf_setTask_other _ _ ha
  | settling => rfl
  | configures => exact (taskOf_endOperation_other _ (configure _ _ _ s) ha).trans rfl
  | disconnects => exact (taskOf_endOperation_other _ { s with conn := false } ha).trans rfl
  | reconnects => exact (taskOf_endOperation_other _ { s with conn := s.cfgValid || s.conn } ha).trans rfl
  | endsAtOnce => exact taskOf_endOperation_other _ _ ha
  | @starts _ _ f =>
    exact (taskOf_awaitResponse_other _ _ { s with linkLock := .held s.current, txBuf := f } ha).trans rfl
  | @answers _ _ fifo => exact (taskOf_endOperation_other _ { s with rxFifo := fifo } ha).trans rfl
  | @readsUid _ fifo u => exact (taskOf_endOperation_other _ (writeLastUid u { s with rxFifo := fifo }) ha).trans rfl
  | @goesOn _ _ _ fifo f => exact (taskOf_awaitResponse_other _ _ { s with rxFifo := fifo, txBuf := f } ha).trans rfl
  | probeGated hcur => rw [taskOf_detectAnswered, taskOf_probeOver_other _ (hcur ▸ ha)]
  | @probeJudged _ fifo _ hcur =>
    rw [taskOf_detectAnswered, taskOf_probeOver_other _ (hcur ▸ ha)]
    exact taskOf_congr rfl rfl rfl a

/-- A link operation of an agent other than POLL leaves the poll engine's registers. -/
theorem linkStep_keeps_pollRegs {s t : State} {i : Instr} (h : LinkStep s i t) (ha : s.current ≠ .poll) :
    pollRegs t = pollRegs s := by
  cases h with
  | waits => exact pollRegs_setTask _ _ _
  | settling => rfl
  | configures => exact pollRegs_endOperation _ _
  | disconnects => exact pollRegs_endOperation _ _
  | reconnects => exact pollRegs_endOperation _ _
  | endsAtOnce => exact pollRegs_endOperation _ _
  | starts => exact pollRegs_awaitResponse _ _ _
  | answers => exact pollRegs_endOperation _ _
  | readsUid => exact pollRegs_endOperation _ _
  | goesOn => exact pollRegs_awaitResponse _ _ _
  | probeGated hcur => exact absurd hcur ha
  | probeJudged hcur => exact absurd hcur ha

@[simp] theorem standing_probeOver (s : State) : standing (probeOver s) = standing s := rfl

/-- A link operation leaves the standing registers. -/
theorem linkStep_keeps_standing {s t : State} {i : Instr} (h : LinkStep s i t) : standing t = standing s := by
  cases h with
  | waits => exact standing_setTask _ _ _
  | settling => rfl
  | configures => exact standing_endOperation _ _
  | disconnects => exact standing_endOperation _ _
  | reconnects => exact standing_endOperation _ _
  | endsAtOnce => exact standing_endOperation _ _
  | starts => exact standing_awaitResponse _ _ _
  | answers => exact standing_endOperation _ _
  | readsUid => exact standing_endOperation _ _
  | goesOn => exact standing_awaitResponse _ _ _
  | probeGated => exact standing_detectAnswered _ _
  | probeJudged => exact standing_detectAnswered _ _

/-! ### Operations of other agents -/

/-- Unchanged registers, with no new operation of POLL, and of HANDLER while Dispatching only. -/
theorem pollInv_of_pollRegs {s t : State} (h : PollInv s) (hregs : pollRegs t = pollRegs s)
    (hpoll : t.pollTask = s.pollTask) (hhandler : t.handlerTask = s.handlerTask ∨ s.pollState = .dispatching)
    (hvalid : s.handlerValid = true → t.handlerValid = true) : PollInv t := by
  have hstate := pollState_of_pollRegs hregs
  have hrunning : t.running = s.running := congrArg PollRegs.running hregs
  have hsignal : t.doneSignal = s.doneSignal := congrArg PollRegs.doneSignal hregs
  refine ⟨?_, ?_, ?_, ?_, ?_, fun hinside => ?_, ?_⟩
  · rw [busy_of_pollRegs hregs, hstate]; exact h.busyIff
  · rw [hrunning, hstate]; exact h.runningIff
  · rw [hpoll, hstate]; exact h.detectingIff
  · rw [hpoll]; exact h.pollRunsProbe
  · rw [hsignal, hstate]; exact h.signalIdle
  · rw [hstate]
    rcases hhandler with heq | hd
    · exact h.handlerInside (heq ▸ hinside)
    · exact hd
  · rw [hstate]; exact fun hne => hvalid (h.handlerRegistered hne)

/-- HANDLER runs an operation while Dispatching only. -/
theorem dispatching_of_handler_runs {s : State} {i : Instr} (h : PollInv s) (hrun : Runs s i)
    (hcur : s.current = .handler) : s.pollState = .dispatching := by
  rcases hrun with ⟨-, -, hcan⟩ | ⟨phase, htask⟩
  · rw [hcur] at hcan
    exact beq_iff_eq.mp hcan
  · rw [hcur] at htask
    exact h.handlerInside (Option.isSome_of_eq_some htask)

/-- While Dispatching no detection is in progress. -/
theorem pollTask_of_dispatching {s : State} (h : PollInv s) (hd : s.pollState = .dispatching) : s.pollTask = none := by
  have hno : ¬ s.pollTask.isSome = true := fun hsome => by
    rw [h.detectingIff.mp hsome] at hd
    cases hd
  simpa using hno

/-- An operation of an agent other than POLL keeps the invariant. -/
theorem execStep_keeps_pollInv {s t : State} {i : Instr} (h : PollInv s) (ha : s.current ≠ .poll) (hrun : Runs s i)
    (hstep : ExecStep s i t) : PollInv t := by
  cases hstep with
  | link _ hstep =>
    have hvalid : t.handlerValid = s.handlerValid := handlerValid_of_standing (linkStep_keeps_standing hstep)
    refine pollInv_of_pollRegs h (linkStep_keeps_pollRegs hstep ha) (linkStep_others hstep ha.symm) ?_
      (fun hv => hvalid.trans hv)
    by_cases hcur : s.current = .handler
    · exact .inr (dispatching_of_handler_runs h hrun hcur)
    · exact .inl (linkStep_others hstep (Ne.symm hcur))
  | registers => exact pollInv_of_pollRegs h rfl rfl (.inl rfl) fun _ => rfl
  | reports => exact pollInv_of_pollRegs h rfl rfl (.inl rfl) id
  | finishes _ hd hidle =>
    have hpoll : s.pollTask = none := pollTask_of_dispatching h hd
    have hhandler : s.handlerTask = none := hidle
    constructor <;> simp [returnResult, eventReturn, hpoll, hhandler]
  | sends => exact pollInv_of_pollRegs h rfl rfl (.inl rfl) id
  | arrives => rw [deliver_eq]; exact pollInv_of_pollRegs h rfl rfl (.inl rfl) id

/-! ### The steps of POLL -/

/-- The registers while Detecting: no callback runs, none is signalled, and one is registered. -/
structure Probing (s : State) : Prop where
  detecting : s.pollState = .detecting
  notBusy : s.busy = false
  notRunning : s.running = none
  notSignalled : s.doneSignal = false
  handlerIdle : s.handlerTask = none
  registered : s.handlerValid = true

/-- While Detecting with its probe in progress, the engine is in order. -/
theorem pollInv_of_probing {s : State} {a : Agent} {phase : Phase} (h : Probing s) (ha : a = .poll)
    (hself : taskOf s a = some ⟨.isCardPresent, phase⟩) : PollInv s := by
  have htask : s.pollTask = some ⟨.isCardPresent, phase⟩ := by rw [ha] at hself; exact hself
  obtain ⟨hd, hb, hr, hs, hh, hv⟩ := h
  refine ⟨?_, ?_, ?_, fun task ht => ?_, ?_, ?_, fun _ => hv⟩
  · simp [hb, hd]
  · simp [hr, hd]
  · simp [htask, hd]
  · rw [htask] at ht
    cases ht
    rfl
  · simp [hs]
  · simp [hh]

/-- The registers do not depend on the lock, the buffers and the operation of POLL itself. -/
theorem probing_congr {s t : State} (h : Probing s) (hregs : pollRegs t = pollRegs s)
    (hhandler : t.handlerTask = s.handlerTask) (hvalid : t.handlerValid = s.handlerValid) : Probing t where
  detecting := (pollState_of_pollRegs hregs).trans h.detecting
  notBusy := (busy_of_pollRegs hregs).trans h.notBusy
  notRunning := (congrArg PollRegs.running hregs).trans h.notRunning
  notSignalled := (congrArg PollRegs.doneSignal hregs).trans h.notSignalled
  handlerIdle := hhandler.trans h.handlerIdle
  registered := hvalid.trans h.registered

/-- The answer of a detection leads to Dispatching or to Idle, in order. -/
theorem pollInv_detectAnswered {s : State} (present : Bool) (h : Probing s) :
    PollInv (detectAnswered present (probeOver s)) := by
  obtain ⟨hd, hb, hr, hs, hh, hv⟩ := h
  cases present <;> constructor <;> simp [detectAnswered, probeOver, hb, hr, hs, hh, hv]

/-- A step of POLL's detection keeps the invariant. -/
theorem probe_keeps_pollInv {s t : State} (h : Probing s) (ha : s.current = .poll)
    (hstep : LinkStep s .isCardPresent t) : PollInv t := by
  have hother : Agent.handler ≠ s.current := by rw [ha]; nofun
  have hhandler : t.handlerTask = s.handlerTask := linkStep_others hstep hother
  have hvalid : t.handlerValid = s.handlerValid := handlerValid_of_standing (linkStep_keeps_standing hstep)
  cases hstep with
  | waits =>
    exact pollInv_of_probing (probing_congr h (pollRegs_setTask _ _ _) hhandler hvalid) ha
      (taskOf_setTask_self _ _ _)
  | settling htask => exact pollInv_of_probing h ha htask
  | endsAtOnce _ _ hne => exact absurd ha (hne rfl)
  | starts =>
    exact pollInv_of_probing (probing_congr h (pollRegs_awaitResponse _ _ _) hhandler hvalid) ha
      (taskOf_awaitResponse_self _ _ _)
  | answers _ _ _ hne => exact absurd ha (hne rfl)
  | goesOn =>
    exact pollInv_of_probing (probing_congr h (pollRegs_awaitResponse _ _ _) hhandler hvalid) ha
      (taskOf_awaitResponse_self _ _ _)
  | probeGated => exact pollInv_detectAnswered _ h
  | probeJudged => exact pollInv_detectAnswered _ (probing_congr h rfl rfl rfl)

/-- Outside Dispatching no callback runs and HANDLER is inside nothing. -/
theorem handler_idle_of_not_dispatching {s : State} (h : PollInv s) (hd : s.pollState ≠ .dispatching) :
    s.busy = false ∧ s.running = none ∧ s.handlerTask = none := by
  refine ⟨?_, ?_, ?_⟩
  · simpa using mt h.busyIff.mp hd
  · simpa using mt h.runningIff.mp hd
  · simpa using mt h.handlerInside hd

/-- The registers of a detection in progress. -/
theorem probing_of_detecting {s : State} (h : PollInv s) (hd : s.pollState = .detecting) : Probing s := by
  obtain ⟨hbusy, hrunning, hhandler⟩ := handler_idle_of_not_dispatching h (by rw [hd]; nofun)
  have hsignal : ¬ s.doneSignal = true := fun hs => by
    rw [h.signalIdle hs] at hd
    cases hd
  exact ⟨hd, hbusy, hrunning, by simpa using hsignal, hhandler, h.handlerRegistered (by rw [hd]; nofun)⟩

/-- The registers in which a tick starts its detection. -/
theorem probing_of_tick {s : State} (h : PollInv s) (hi : s.pollState = .idle) (hsignal : s.doneSignal = false)
    (hvalid : s.handlerValid = true) : Probing { s with pollState := .detecting } := by
  obtain ⟨hbusy, hrunning, hhandler⟩ := handler_idle_of_not_dispatching h (by rw [hi]; nofun)
  exact ⟨rfl, hbusy, hrunning, hsignal, hhandler, hvalid⟩

theorem pollInv_scheduled {s u : State} (hu : Scheduled s u) (h : PollInv s) : PollInv u := by
  obtain ⟨evs, n, a, rfl⟩ := hu
  exact pollInv_of_pollRegs h rfl rfl (.inl rfl) id

/-- Settles O52, case by case of `Move`. -/
theorem everyStepKeepsThePollInvariant : Obligations.EveryStepKeepsThePollInvariant := by
  intro s t h hstep
  cases step_move hstep with
  | frame => exact pollInv_of_pollRegs h rfl rfl (.inl rfl) id
  | operation _ hu ha hrun hexec => exact execStep_keeps_pollInv (pollInv_scheduled hu h) ha hrun hexec
  | tick _ hu ha hsignal hi _ _ hvalid _ hstep =>
    have h' := pollInv_scheduled hu h
    obtain ⟨evs, n, a, rfl⟩ := hu
    exact probe_keeps_pollInv (probing_of_tick h' hi hsignal hvalid) ha hstep
  | detection _ hu ha _ hd hstep =>
    have h' := pollInv_scheduled hu h
    obtain ⟨evs, n, a, rfl⟩ := hu
    exact probe_keeps_pollInv (probing_of_detecting h' hd) ha hstep
  | interval _ hu =>
    obtain ⟨hb, hr, hd, hp, -, hh, hv⟩ := pollInv_scheduled hu h
    exact ⟨hb, hr, hd, hp, nofun, hh, hv⟩
  | delivery _ hu =>
    rw [deliver_eq]
    exact pollInv_of_pollRegs (pollInv_scheduled hu h) rfl rfl (.inl rfl) id
  | outside _ hu =>
    obtain ⟨hb, hr, hd, hp, hs, hh, hv⟩ := pollInv_scheduled hu h
    exact ⟨hb, hr, hd, hp, hs, hh, hv⟩

/-! ### The transitions of POLL_STATE -/

/-- An instruction changes no operation in progress but its agent's. -/
theorem execStep_others {s t : State} {i : Instr} (h : ExecStep s i t) {a : Agent} (ha : a ≠ s.current) :
    taskOf t a = taskOf s a := by
  cases h with
  | link _ hlink => exact linkStep_others hlink ha
  | registers => exact taskOf_congr rfl rfl rfl a
  | reports => exact taskOf_congr rfl rfl rfl a
  | finishes => exact taskOf_congr rfl rfl rfl a
  | sends => exact taskOf_congr rfl rfl rfl a
  | arrives => exact taskOf_deliver _ _ _

/-- An operation of an agent other than POLL moves POLL_STATE only as HANDLER_DONE. -/
theorem execStep_pollState {s t : State} {i : Instr} (ha : s.current ≠ .poll) (hstep : ExecStep s i t) :
    pollRegs t = pollRegs s ∨ (s.pollState = .dispatching ∧ t = returnResult doneResult (eventReturn s) ∧
      s.current = .handler) := by
  cases hstep with
  | link _ hlink => exact .inl (linkStep_keeps_pollRegs hlink ha)
  | registers => exact .inl rfl
  | reports => exact .inl rfl
  | finishes hcur hd _ => exact .inr ⟨hd, rfl, hcur⟩
  | sends => exact .inl rfl
  | arrives => exact .inl (pollRegs_deliver _ _)

/-- A step of a detection goes on Detecting, or answers: without the link, or on what has arrived. -/
theorem probe_pollState {s t : State} (hstep : LinkStep s .isCardPresent t) (ha : s.current = .poll) :
    t.pollState = s.pollState ∨
    (Granted s .isCardPresent ∧ s.conn = false ∧ t = detectAnswered false (probeOver s)) ∨
    (∃ loc fifo present, Settled s .isCardPresent loc ∧
      (present = true ↔ s.rxFifo.length = 12 ∧ (s.cfg.validateRx = true → verifyChecksum s.rxFifo = true)) ∧
      t = detectAnswered present (probeOver { s with rxFifo := fifo })) := by
  cases hstep with
  | waits => exact .inl (setTask_pollState _ _ _)
  | settling => exact .inl rfl
  | endsAtOnce _ _ hne => exact absurd ha (hne rfl)
  | starts => exact .inl (awaitResponse_pollState _ _ _)
  | answers _ _ _ hne => exact absurd ha (hne rfl)
  | goesOn => exact .inl (awaitResponse_pollState _ _ _)
  | probeGated _ hg hc => exact .inr (.inl ⟨hg, hc, rfl⟩)
  | probeJudged _ hs _ hpresent => exact .inr (.inr ⟨_, _, _, hs, hpresent, rfl⟩)

/-- What is not a good response has another count, or a bad checksum where validated. -/
theorem bad_response {s : State}
    (h : ¬ (s.rxFifo.length = 12 ∧ (s.cfg.validateRx = true → verifyChecksum s.rxFifo = true))) :
    s.rxFifo.length ≠ 12 ∨ (s.cfg.validateRx = true ∧ verifyChecksum s.rxFifo = false) := by
  by_cases hlen : s.rxFifo.length = 12
  · refine .inr ?_
    simpa [hlen] using h
  · exact .inl hlen

/-- Settles O38, case by case of `Move`: only HANDLER_DONE, a tick and the answer of a detection change POLL_STATE, and
the invariant says where the detection stands. -/
theorem pollStateMovesAsStated : Obligations.PollStateMovesAsStated := by
  intro s t h hstep hne
  cases step_move hstep with
  | operation _ hu ha hrun hexec =>
    obtain ⟨evs, n, a, rfl⟩ := hu
    rcases execStep_pollState ha hexec with hregs | ⟨hd, rfl, hcur⟩
    · exact absurd (pollState_of_pollRegs hregs) hne
    · refine .inr (.inr (.inr ⟨hd, rfl, ?_⟩))
      rw [returnResult_returns, eventReturn_current, hcur]
      rfl
  | tick _ hu ha hsignal hi hz hc hv hb hlink =>
    obtain ⟨evs, n, a, rfl⟩ := hu
    rcases probe_pollState hlink ha with hstate | ⟨-, hconn, -⟩ | ⟨loc, fifo, present, hs, -, -⟩
    · exact .inl ⟨hi, hstate, hz, hc, hv, hb⟩
    · exact absurd hc (by simpa using hconn)
    · have htask : taskOf s .poll = some ⟨.isCardPresent, .settle loc⟩ := ha ▸ hs.1
      have hd : s.pollState = .detecting := h.detectingIff.mp (Option.isSome_of_eq_some htask)
      rw [hi] at hd
      cases hd
  | detection _ hu ha _ hd hlink =>
    obtain ⟨evs, n, a, rfl⟩ := hu
    rcases probe_pollState hlink ha with hstate | ⟨⟨hr, hl⟩, hconn, rfl⟩ | ⟨loc, fifo, present, hs, hpresent, rfl⟩
    · exact absurd hstate hne
    · have hwaits : s.pollTask = some ⟨.isCardPresent, .lockWait⟩ := by
        rcases hr with hnone | hwait
        · have hnone : taskOf s .poll = none := ha ▸ hnone
          have hsome := h.detectingIff.mpr hd
          rw [show s.pollTask = none from hnone] at hsome
          cases hsome
        · exact show taskOf s .poll = _ from ha ▸ hwait
      exact .inr (.inr (.inl ⟨hd, rfl, rfl, .inl ⟨hwaits, hl, hconn⟩⟩))
    · have htask : s.pollTask = some ⟨.isCardPresent, .settle loc⟩ := show taskOf s .poll = _ from ha ▸ hs.1
      cases present with
      | true =>
        obtain ⟨hlen, hchk⟩ := hpresent.mp rfl
        exact .inr (.inl ⟨hd, rfl, ⟨loc, htask⟩, hs.2, hlen, hchk⟩)
      | false =>
        have hbad := bad_response (fun hgood => nomatch hpresent.mpr hgood)
        exact .inr (.inr (.inl ⟨hd, rfl, rfl, .inr ⟨⟨loc, htask⟩, hs.2, hbad⟩⟩))
  | frame => exact absurd rfl hne
  | interval _ hu => obtain ⟨evs, n, a, rfl⟩ := hu; exact absurd rfl hne
  | delivery _ hu =>
    obtain ⟨evs, n, a, rfl⟩ := hu
    exact absurd (pollState_of_pollRegs (pollRegs_deliver _ _)) hne
  | outside _ hu => obtain ⟨evs, n, a, rfl⟩ := hu; exact absurd rfl hne

/-- Settles O39: while BUSY the engine is Dispatching, so POLL neither ticks nor detects, and another agent's operation
leaves the engine's registers or is HANDLER_DONE. -/
theorem noSecondCallbackWhileOneRuns : Obligations.NoSecondCallbackWhileOneRuns := by
  intro s t h hbusy hstep
  have hd : s.pollState = .dispatching := h.busyIff.mp hbusy
  have hpoll : s.pollTask = none := pollTask_of_dispatching h hd
  cases step_move hstep with
  | operation _ hu ha hrun hexec =>
    have hkeep : taskOf t .poll = taskOf _ .poll := execStep_others hexec ha.symm
    rw [taskOf_scheduled hu] at hkeep
    obtain ⟨evs, n, a, rfl⟩ := hu
    rcases execStep_pollState ha hexec with hregs | ⟨-, rfl, hcur⟩
    · exact .inl ⟨(busy_of_pollRegs hregs).trans hbusy, congrArg PollRegs.running hregs, hkeep.trans hpoll⟩
    · refine .inr ⟨rfl, rfl, ?_⟩
      rw [returnResult_returns, eventReturn_current, hcur]
      rfl
  | tick _ _ _ _ hi => rw [hd] at hi; cases hi
  | detection _ _ _ _ hdet => rw [hd] at hdet; cases hdet
  | frame => exact .inl ⟨hbusy, rfl, hpoll⟩
  | interval _ hu => obtain ⟨evs, n, a, rfl⟩ := hu; exact .inl ⟨hbusy, rfl, hpoll⟩
  | delivery _ hu =>
    obtain ⟨evs, n, a, rfl⟩ := hu
    rw [deliver_eq]
    exact .inl ⟨hbusy, rfl, hpoll⟩
  | outside _ hu => obtain ⟨evs, n, a, rfl⟩ := hu; exact .inl ⟨hbusy, rfl, hpoll⟩

end Sys2Proof.Machine
end


-- ==== Sys2Proof/Proofs/Writers.lean ====
section
/-!
Which instruction writes which register (10_state.md sections 2 and 3), and O46, O47 and O48: frame facts of `LinkStep`,
one for each group of registers, and the cases of `ExecStep`.
-/

namespace Sys2Proof.Machine

/-! ### The answer of a detection -/

/-- The end of a detection writes the lock, POLL's operation, BUSY, POLL_STATE, the running callback and POLL_TIMER,
and nothing else. -/
theorem probeEnd_writes (present : Bool) (s : State) : ∃ busy pollState running pollTimer,
    detectAnswered present (probeOver s) =
      { s with linkLock := .free, pollTask := none, busy := busy, pollState := pollState, running := running,
               pollTimer := pollTimer } := by
  cases present <;> exact ⟨_, _, _, _, rfl⟩

/-! ### What a step of a link operation leaves -/

section Frames

variable {s t : State} {i : Instr}

/-- CONN is written by INIT, DISCONNECT and RECONNECT, and the pins by INIT. -/
theorem linkStep_connection (h : LinkStep s i t) :
    (i ≠ .disconnect → i ≠ .reconnect → (∀ tx rx, i ≠ .init tx rx) → t.conn = s.conn) ∧
    ((∀ tx rx, i ≠ .init tx rx) → t.cfgTx = s.cfgTx ∧ t.cfgRx = s.cfgRx ∧ t.cfgValid = s.cfgValid) := by
  cases h with
  | probeGated => obtain ⟨_, _, _, _, he⟩ := probeEnd_writes false s; simp [he]
  | @probeJudged _ fifo present =>
    obtain ⟨_, _, _, _, he⟩ := probeEnd_writes present { s with rxFifo := fifo }
    simp [he]
  | _ => simp

/-- LAST_UID is written by QUERY_UID. -/
theorem linkStep_lastUid (h : LinkStep s i t) (hi : i ≠ .queryUid) :
    t.lastUid = s.lastUid ∧ t.lastUidWritten = s.lastUidWritten := by
  cases h with
  | probeGated => obtain ⟨_, _, _, _, he⟩ := probeEnd_writes false s; simp [he]
  | @probeJudged _ fifo present =>
    obtain ⟨_, _, _, _, he⟩ := probeEnd_writes present { s with rxFifo := fifo }
    simp [he]
  | readsUid => exact absurd rfl hi
  | _ => simp

/-- The line, RX_CAP and TAG wait for the frame itself (log 10). -/
theorem linkStep_line (h : LinkStep s i t) : t.rxCap = s.rxCap ∧ t.wire = s.wire ∧ t.tag = s.tag := by
  cases h with
  | probeGated => obtain ⟨_, _, _, _, he⟩ := probeEnd_writes false s; simp [he]
  | @probeJudged _ fifo present =>
    obtain ⟨_, _, _, _, he⟩ := probeEnd_writes present { s with rxFifo := fifo }
    simp [he]
  | _ => simp

/-- RX_FIFO is drained or left. -/
theorem linkStep_drains (h : LinkStep s i t) : Drained s t.rxFifo := by
  cases h with
  | answers _ _ hfifo => simpa using hfifo
  | readsUid _ hfifo => simpa using hfifo
  | goesOn _ _ hfifo => simpa using hfifo
  | probeGated => obtain ⟨_, _, _, _, he⟩ := probeEnd_writes false s; simp [he, Drained]
  | @probeJudged _ fifo present _ _ hfifo =>
    obtain ⟨_, _, _, _, he⟩ := probeEnd_writes present { s with rxFifo := fifo }
    simpa [he] using hfifo
  | _ => simp [Drained]

/-- INIT, DISCONNECT and RECONNECT leave the settle timer and the buffers. -/
theorem linkStep_buffers (h : LinkStep s i t) (hi : isProtocolOp i = false) :
    t.settleTimer = s.settleTimer ∧ t.txBuf = s.txBuf ∧ t.rxFifo = s.rxFifo := by
  cases h with
  | waits => simp
  | settling => simp
  | configures => simp
  | disconnects => simp
  | reconnects => simp
  | endsAtOnce hop => rw [hi] at hop; cases hop
  | starts hop => rw [hi] at hop; cases hop
  | answers hop => rw [hi] at hop; cases hop
  | goesOn hop => rw [hi] at hop; cases hop
  | readsUid => cases hi
  | probeGated => cases hi
  | probeJudged => cases hi

/-- A step that returns an error ends its operation, and writes no register but the buffers and the lock. -/
theorem linkStep_error {a : Agent} {r : Result} (h : LinkStep s i t) (hreturns : t.returns = (a, r) :: s.returns)
    (herr : r.err ≠ .ok) : a = s.current ∧ ∃ fifo, t = endOperation r { s with rxFifo := fifo } := by
  have returned {r' : Result} {u : State} (ht : (endOperation r' u).returns = (a, r) :: s.returns)
      (hcur : u.current = s.current) (hu : u.returns = s.returns) : a = s.current ∧ r = r' := by
    rw [endOperation_returns, hcur, hu] at ht
    obtain ⟨ha, hr⟩ := Prod.mk.inj (List.cons.inj ht).1
    exact ⟨ha.symm, hr.symm⟩
  cases h with
  | configures => rw [(returned hreturns rfl rfl).2] at herr; exact absurd rfl herr
  | disconnects => rw [(returned hreturns rfl rfl).2] at herr; exact absurd rfl herr
  | reconnects => rw [(returned hreturns rfl rfl).2] at herr; exact absurd rfl herr
  | readsUid => rw [(returned hreturns rfl rfl).2] at herr; exact absurd rfl herr
  | endsAtOnce =>
    obtain ⟨ha, rfl⟩ := returned hreturns rfl rfl
    exact ⟨ha, s.rxFifo, rfl⟩
  | answers =>
    obtain ⟨ha, rfl⟩ := returned hreturns rfl rfl
    exact ⟨ha, _, rfl⟩
  | probeGated =>
    obtain ⟨_, _, _, _, he⟩ := probeEnd_writes false s
    rw [he] at hreturns
    exact absurd hreturns.symm (List.cons_ne_self _ _)
  | @probeJudged _ fifo present =>
    obtain ⟨_, _, _, _, he⟩ := probeEnd_writes present { s with rxFifo := fifo }
    rw [he] at hreturns
    exact absurd hreturns.symm (List.cons_ne_self _ _)
  | _ => simp at hreturns

end Frames

/-! ### The obligations -/

/-- Settles O46, case by case of `ExecStep`; what POLL and REGISTER_HANDLER write is told by `linkStep_keeps_pollRegs`
and `linkStep_keeps_standing`. -/
theorem registersHaveTheirWriters : Obligations.RegistersHaveTheirWriters := by
  intro i s t h
  cases exec_execStep h with
  | link hi hlink =>
    obtain ⟨hconn, hpins⟩ := linkStep_connection hlink
    obtain ⟨hcap, hwire, htag⟩ := linkStep_line hlink
    have hbuffers := linkStep_buffers hlink
    have hstanding := linkStep_keeps_standing hlink
    have hpoll := linkStep_keeps_pollRegs hlink
    obtain ⟨hcfg, hbaud, hhandler, hvalid, hcur, hpartner, hevents, hdrawn⟩ := Standing.mk.inj hstanding
    refine ⟨hconn, hpins, linkStep_lastUid hlink, fun _ => ⟨hhandler, hvalid⟩, fun _ ha => ?_, fun ha => ?_,
      fun hno => absurd hi (by simp [hno]), fun hno => (hbuffers hno).1, fun hno _ => (hbuffers hno).2.1,
      fun _ hno => (hbuffers hno).2.2, fun _ => hcap, fun _ => ⟨hwire, htag⟩, hcfg, hbaud, hcur, hpartner, hevents,
      hdrawn⟩
    · obtain ⟨hbusy, hstate, -, hrunning, hsignal⟩ := PollRegs.mk.inj (hpoll ha)
      exact ⟨hbusy, hstate, hrunning, hsignal⟩
    · obtain ⟨-, -, htimer, -, -⟩ := PollRegs.mk.inj (hpoll ha)
      exact htimer
  | registers => simp
  | reports => simp
  | finishes => simp
  | sends hframe => simp [hframe, (isRequestFrame_excludes hframe).2]
  | arrives hhost => simp [deliver_eq, hhost]

/-- Settles O47: a host operation that takes the lock is a `LinkStep`, the other three write neither buffers nor
operations. -/
theorem hostOperationsLeaveTheTagAndOthersAlone : Obligations.HostOperationsLeaveTheTagAndOthersAlone := by
  intro i s t hi h
  have hstep := exec_execStep h
  have hothers (a : Agent) (ha : a ≠ s.current) : taskOf t a = taskOf s a := execStep_others hstep ha
  cases hstep with
  | link _ hlink =>
    obtain ⟨hcap, hwire, htag⟩ := linkStep_line hlink
    exact ⟨hwire, fun a => by rw [htag], hcap, linkStep_drains hlink, hothers⟩
  | registers => exact ⟨rfl, fun _ => rfl, rfl, .inl rfl, hothers⟩
  | reports => exact ⟨rfl, fun _ => rfl, rfl, .inl rfl, hothers⟩
  | finishes => exact ⟨rfl, fun _ => rfl, rfl, .inl rfl, hothers⟩
  | sends hframe => rw [(isRequestFrame_excludes hframe).2] at hi; cases hi
  | arrives hhost => rw [hi] at hhost; cases hhost

/-- Settles O48: only a link operation returns an error, by `endOperation` on a state that differs in RX_FIFO alone. -/
theorem errorsAreLocal : Obligations.ErrorsAreLocal := by
  intro i s t a r h hreturns herr
  cases exec_execStep h with
  | link _ hlink =>
    obtain ⟨rfl, fifo, rfl⟩ := linkStep_error hlink hreturns herr
    simp
  | registers => cases hreturns; exact absurd rfl herr
  | reports => cases hreturns; exact absurd rfl herr
  | finishes => cases hreturns; exact absurd rfl herr
  | sends => exact absurd hreturns.symm (List.cons_ne_self _ _)
  | arrives => rw [deliver_eq] at hreturns; exact absurd hreturns.symm (List.cons_ne_self _ _)

end Sys2Proof.Machine
end


-- ==== Sys2Proof/Proofs/Answers.lean ====
section
/-!
The atomic steps of the operations, one by one: the wait for the lock, the first frame, the settle delay, and the
answers after it (42_transport.md R178, R182, 43_block_io.md R204, R205, 44_card_session.md R231 to R237,
45_poll_loop.md R263), with O15, O17, O18, O10, O19, O20, O35, O22, O23 and O24.
-/

namespace Sys2Proof.Machine

/-! ### Waiting -/

/-- A step of every operation that takes the lock is a `linkOperation`. -/
theorem exec_eq_linkOperation {i : Instr} (hi : isLinkOp i = true) (s : State) :
    ∃ granted resume, exec i s = linkOperation i s granted resume := by
  cases i with
  | init tx rx => rw [exec, execInit]; exact ⟨_, _, rfl⟩
  | disconnect => rw [exec, execDisconnect]; exact ⟨_, _, rfl⟩
  | reconnect => rw [exec, execReconnect]; exact ⟨_, _, rfl⟩
  | queryUid => rw [exec, execQueryUid]; exact ⟨_, _, rfl⟩
  | isCardPresent => rw [exec, execIsCardPresent]; exact ⟨_, _, rfl⟩
  | writeText text => exact ⟨_, _, rfl⟩
  | readText => exact ⟨_, _, rfl⟩
  | writeBytes data => exact ⟨_, _, rfl⟩
  | readBytes => exact ⟨_, _, rfl⟩
  | _ => cases hi

/-- Settles O15. -/
theorem linkOperationsWaitForTheLock : Obligations.LinkOperationsWaitForTheLock := by
  intro i s a hi hr hl
  obtain ⟨granted, resume, hexec⟩ := exec_eq_linkOperation hi s
  rw [hexec, linkOperation_waits hr hl]

/-- Settles O18: the settle delay is tested before anything is resumed. -/
theorem settleDelayIsWaitedOut : Obligations.SettleDelayIsWaitedOut := by
  intro i s loc hi htask hz
  obtain ⟨granted, resume, hexec⟩ := exec_eq_linkOperation (isLinkOp_of_isProtocolOp hi) s
  rw [hexec]
  simp [linkOperation, htask, hz]

/-! ### The first frame -/

/-- BUILD_BLOCK_READ writes TX_BUF alone (41_frame_codec.md R141). -/
theorem buildBlockRead_eq (b : Byte) (s : State) :
    buildBlockRead b s = { s with txBuf := frameBytes (.blockRead b) } := by
  rw [← buildBlockRead_txBuf b s]
  rfl

/-- The block at a cursor of WRITE_STREAM is that of BLOCK_SEQ while chunks are left. -/
theorem writtenBlocks_getElem?_of_lt {p : Params} {n k : Nat} (h : k < chunkCount n) :
    (writtenBlocks p n)[k]? = (blockSeq p)[k]? := List.getElem?_take_of_lt h

/-- A gated operation that is granted the lock with CONN = 1 goes on. -/
theorem linkOperation_connected {op : Instr} {v : Val} {s : State} {go : State → Out} {resume : Locals → State → Out}
    (hr : Ready s op) (hl : s.linkLock = .free) (hc : s.conn = true) :
    linkOperation op s (fun u => gated v u go) resume = go { s with linkLock := .held s.current } := by
  simp [linkOperation_granted hr hl, gated, hc]

/-- WRITE_STREAM starts with the first chunk in the first block: a terminated stream has at least one chunk. -/
theorem writeFrom_start {op : Instr} {data : Bytes} {s : State} {b : Byte} (hb : (blockSeq s.cfg)[0]? = some b) :
    writeFrom op (terminated data) 0 s =
      .next (awaitResponse op ⟨0, [], terminated data⟩
        { s with txBuf := frameBytes (.blockWrite b (chunk (terminated data) 0)) }) := by
  have hchunk : 0 < chunkCount (terminated data).length := by
    rw [terminated, chunkCount, List.length_append]
    simp
  rw [writeFrom_eq, writtenBlocks_getElem?_of_lt hchunk, hb]

/-- READ_STREAM starts with the first block. -/
theorem readFrom_block {op : Instr} {wrap : Bytes → Val} {k : Nat} {out : Bytes} {s : State} {b : Byte}
    (hb : (blockSeq s.cfg)[k]? = some b) :
    readFrom op wrap k out s =
      .next (awaitResponse op ⟨k, out, []⟩ { s with txBuf := frameBytes (.blockRead b) }) := by
  rw [readFrom, hb, ← buildBlockRead_eq]

/-- Settles O17: granted the lock with CONN = 1, each operation builds its first frame and starts its settle delay. -/
theorem connectedOperationsBuildTheirFirstFrame : Obligations.ConnectedOperationsBuildTheirFirstFrame := by
  intro i s b hr hl hc hb
  refine ⟨?uid, fun data => ?write, ?read⟩
  case uid =>
    rintro (rfl | rfl)
    · rw [exec, execQueryUid, linkOperation_connected hr hl hc]
      rfl
    · rw [exec, execIsCardPresent, linkOperation_granted hr hl]
      exact if_pos hc
  case write =>
    rintro (rfl | ⟨x, rfl, rfl⟩) <;> exact (linkOperation_connected hr hl hc).trans (writeFrom_start hb)
  case read =>
    rintro (rfl | rfl) <;> exact (linkOperation_connected hr hl hc).trans (readFrom_block hb)

/-! ### The parsers -/

/-- The checksum is judged only when validation is on (41_frame_codec.md R146). -/
theorem ite_checksumAccepted {α : Type} (v : Bool) (r : Bytes) (good bad : α) :
    (if checksumAccepted v r then good else bad) = if v = true ∧ verifyChecksum r = false then bad else good := by
  cases v <;> cases h : verifyChecksum r <;> simp [checksumAccepted, h]

/-- Settles O10: what each parser answers for a response of its length. -/
theorem parsersJudgeByLengthChecksumAndAck : Obligations.ParsersJudgeByLengthChecksumAndAck := by
  refine fun v r => ⟨fun h => ?_, fun h => ?_, fun h => ?_, rfl, rfl, rfl⟩
  · rw [parseUidRsp_of_length v h, ite_checksumAccepted]
  · rw [parseWriteAck_of_length v h, ite_checksumAccepted]
  · rw [parseReadRsp_of_length v h, ite_checksumAccepted]

section Verdicts

variable {v : Bool} {r : Bytes}

theorem checksumAccepted_good (h : v = true → verifyChecksum r = true) : checksumAccepted v r = true := by
  cases v with
  | false => rfl
  | true => exact h rfl

theorem checksumAccepted_bad (hv : v = true) (h : verifyChecksum r = false) : checksumAccepted v r = false := by
  rw [checksumAccepted, hv, h]
  rfl

theorem parseUidRsp_badChecksum (hlen : r.length = 12) (hv : v = true) (h : verifyChecksum r = false) :
    parseUidRsp v (some r) = .error .checksum := by
  rw [parseUidRsp_of_length v hlen, checksumAccepted_bad hv h]
  rfl

theorem parseWriteAck_badChecksum (hlen : r.length = 8) (hv : v = true) (h : verifyChecksum r = false) :
    parseWriteAck v (some r) = .error .checksum := by
  rw [parseWriteAck_of_length v hlen, checksumAccepted_bad hv h]
  rfl

theorem parseReadRsp_badChecksum (hlen : r.length = 22) (hv : v = true) (h : verifyChecksum r = false) :
    parseReadRsp v (some r) = .error .checksum := by
  rw [parseReadRsp_of_length v hlen, checksumAccepted_bad hv h]
  rfl

theorem parseReadRsp_accepted (hlen : r.length = 22) (h : v = true → verifyChecksum r = true) :
    parseReadRsp v (some r) = .ok ((r.drop 5).take 16) := by
  rw [parseReadRsp_of_length v hlen, if_pos (checksumAccepted_good h)]

theorem parseWriteAck_accepted (hlen : r.length = 8) (h : v = true → verifyChecksum r = true)
    (hack : r.getD 4 0#8 = 0#8) : parseWriteAck v (some r) = .ok () := by
  rw [parseWriteAck_of_length v hlen, if_pos (checksumAccepted_good h), if_pos hack]

theorem parseWriteAck_rejected (hlen : r.length = 8) (h : v = true → verifyChecksum r = true)
    (hack : r.getD 4 0#8 ≠ 0#8) : parseWriteAck v (some r) = .error .writeRejected := by
  rw [parseWriteAck_of_length v hlen, if_pos (checksumAccepted_good h), if_neg hack]

end Verdicts

/-! ### The ends of an operation, written out -/

/-- READ_EXACTLY with another count takes nothing (42_transport.md R178). -/
theorem readExactly_noData {n : Nat} {s : State} (h : s.rxFifo.length ≠ n) : readExactly n s = (none, s) := by
  rw [readExactly_eq, if_neg h]

/-- READ_EXACTLY with its count takes all of RX_FIFO. -/
theorem readExactly_all {n : Nat} {s : State} (h : s.rxFifo.length = n) :
    readExactly n s = (some s.rxFifo, { s with rxFifo := [] }) := by
  rw [readExactly_eq, if_pos h]

/-- An operation that ends writes the lock, its agent's operation and the results. -/
theorem endOperation_eq (r : Result) (s : State) :
    endOperation r s =
      { setTask s s.current none with linkLock := .free, returns := (s.current, r) :: s.returns } := by
  cases hc : s.current <;> simp [endOperation, returnResult, release, setTask, hc]

/-- One that has taken all of RX_FIFO leaves it empty. -/
theorem endOperation_taken (r : Result) (s : State) :
    endOperation r { s with rxFifo := [] } =
      { setTask s s.current none with
        linkLock := .free, rxFifo := [], returns := (s.current, r) :: s.returns } := by
  cases hc : s.current <;> simp [endOperation, returnResult, release, setTask, hc]

/-! ### QUERY_UID and IS_CARD_PRESENT -/

/-- QUERY_UID whose settle delay has ended answers with the verdict on what is in RX_FIFO. -/
theorem exec_queryUid_settled {s : State} {loc : Locals} (hs : Settled s .queryUid loc) :
    exec .queryUid s =
      queryUidJudged (parseUidRsp (readExactly 12 s).2.cfg.validateRx (readExactly 12 s).1) (readExactly 12 s).2 := by
  rw [exec, execQueryUid, linkOperation_resumes hs]

/-- Settles O19: the verdict on 12 bytes, or on another count. -/
theorem queryUidAnswers : Obligations.QueryUidAnswers := by
  refine fun s loc hs => ⟨fun hlen hchk => ?good, fun hlen hv hchk => ?bad, fun hlen => ?none⟩
  case good =>
    rw [exec_queryUid_settled hs, readExactly_all hlen, parseUidRsp_accepted hlen hchk, queryUidJudged_eq]
    cases hc : s.current <;> simp [endOperation, returnResult, release, setTask, writeLastUid, hc]
  case bad =>
    rw [exec_queryUid_settled hs, readExactly_all hlen, parseUidRsp_badChecksum hlen hv hchk, queryUidJudged_eq]
    exact congrArg _ (endOperation_taken _ _)
  case none =>
    rw [exec_queryUid_settled hs, readExactly_noData hlen, parseUidRsp, queryUidJudged_eq]
    exact congrArg _ (endOperation_eq _ _)

/-- Settles O20: the same verdicts, given to a host agent as a Boolean. -/
theorem isCardPresentAnswers : Obligations.IsCardPresentAnswers := by
  refine fun s loc hs ha => ⟨fun hlen hchk => ?good, fun hlen hv hchk => ?bad, fun hlen => ?none⟩
  case good =>
    rw [exec_isCardPresent_settled hs, readExactly_all hlen, parseUidRsp_accepted hlen hchk,
      endProbe_of_ne_poll (s := { s with rxFifo := [] }) ha]
    exact congrArg _ (endOperation_taken _ _)
  case bad =>
    rw [exec_isCardPresent_settled hs, readExactly_all hlen, parseUidRsp_badChecksum hlen hv hchk,
      endProbe_of_ne_poll (s := { s with rxFifo := [] }) ha]
    exact congrArg _ (endOperation_taken _ _)
  case none =>
    rw [exec_isCardPresent_settled hs, readExactly_noData hlen, endProbe_of_ne_poll ha]
    exact congrArg _ (endOperation_eq _ _)

/-- Settles O35: the two negative verdicts, given to POLL. -/
theorem negativeDetectionGoesIdle : Obligations.NegativeDetectionGoesIdle := by
  refine fun s loc ha hs => ⟨fun hlen => ?none, fun hlen hv hchk => ?bad⟩
  case none =>
    rw [exec_isCardPresent_settled hs, readExactly_noData hlen, endProbe_poll ha]
    rfl
  case bad =>
    rw [exec_isCardPresent_settled hs, readExactly_all hlen, parseUidRsp_badChecksum hlen hv hchk,
      endProbe_poll (s := { s with rxFifo := [] }) ha]
    rfl

/-! ### Stream writes -/

/-- WRITE_BYTES or WRITE_TEXT. -/
def IsWrite (i : Instr) : Prop := (∃ data, i = .writeBytes data) ∨ ∃ x, i = .writeText x

section Writes

variable {i : Instr} {s : State} {loc : Locals}

theorem exec_write_settled (hi : IsWrite i) (hs : Settled s i loc) : exec i s = writeResume i loc s := by
  rcases hi with ⟨data, rfl⟩ | ⟨x, rfl⟩ <;> exact linkOperation_resumes hs

/-- Another count ends a stream write with E_NO_RESPONSE. -/
theorem writeResume_noData (hlen : s.rxFifo.length ≠ 8) :
    writeResume i loc s =
      .next (endOperation ⟨.bool false, .noResponse, truncated s.cfg loc.stream.length⟩ s) := by
  rw [writeResume, readExactly_noData hlen]
  rfl

/-- The error of an acknowledgement ends a stream write. -/
theorem writeResume_error {e : Err} (hlen : s.rxFifo.length = 8)
    (he : parseWriteAck s.cfg.validateRx (some s.rxFifo) = .error e) :
    writeResume i loc s =
      .next (endOperation ⟨.bool false, e, truncated s.cfg loc.stream.length⟩ { s with rxFifo := [] }) := by
  simp only [writeResume, readExactly_all hlen, he]

/-- An accepted acknowledgement lets it go on. -/
theorem writeResume_ok (hlen : s.rxFifo.length = 8)
    (hok : parseWriteAck s.cfg.validateRx (some s.rxFifo) = .ok ()) :
    writeResume i loc s = writeFrom i loc.stream (loc.k + 1) { s with rxFifo := [] } := by
  simp only [writeResume, readExactly_all hlen, hok]

end Writes

/-- Settles O22: the verdict on the acknowledgement, and WRITE_STREAM at the next cursor. -/
theorem streamWriteGoesOnOrEnds : Obligations.StreamWriteGoesOnOrEnds := by
  intro i s k out stream hi hs
  rw [exec_write_settled hi hs]
  refine ⟨fun hlen hchk hack hnone => ?last, fun b hlen hchk hack hb => ?next, fun hlen hchk hack => ?rejected,
    fun hlen hv hchk => ?bad, fun hlen => ?none⟩
  case last =>
    rw [writeResume_ok hlen (parseWriteAck_accepted hlen hchk hack), writeFrom_eq]
    simp only [hnone]
    exact congrArg _ (endOperation_taken _ _)
  case next =>
    rw [writeResume_ok hlen (parseWriteAck_accepted hlen hchk hack), writeFrom_eq]
    simp only [hb]
    rfl
  case rejected =>
    rw [writeResume_error hlen (parseWriteAck_rejected hlen hchk hack)]
    exact congrArg _ (endOperation_taken _ _)
  case bad =>
    rw [writeResume_error hlen (parseWriteAck_badChecksum hlen hv hchk)]
    exact congrArg _ (endOperation_taken _ _)
  case none =>
    rw [writeResume_noData hlen]
    exact congrArg _ (endOperation_eq _ _)

/-! ### Stream reads -/

/-- READ_BYTES or READ_TEXT, with what it makes of the bytes read. -/
def IsRead (i : Instr) (wrap : Bytes → Val) : Prop :=
  (i = .readBytes ∧ wrap = Val.bytes) ∨ (i = .readText ∧ wrap = fun b => Val.text (utf8Decode b))

section Reads

variable {i : Instr} {wrap : Bytes → Val} {s : State} {loc : Locals}

theorem exec_read_settled (hi : IsRead i wrap) (hs : Settled s i loc) : exec i s = readResume i wrap loc s := by
  rcases hi with ⟨rfl, rfl⟩ | ⟨rfl, rfl⟩ <;> exact linkOperation_resumes hs

/-- Another count ends a stream read with E_NO_RESPONSE. -/
theorem readResume_noData (hlen : s.rxFifo.length ≠ 22) :
    readResume i wrap loc s = .next (endOperation ⟨wrap loc.out, .noResponse, false⟩ s) := by
  rw [readResume, readExactly_noData hlen]
  rfl

/-- A bad checksum, where validated, ends it with E_CHECKSUM. -/
theorem readResume_badChecksum (hlen : s.rxFifo.length = 22) (hv : s.cfg.validateRx = true)
    (hchk : verifyChecksum s.rxFifo = false) :
    readResume i wrap loc s = .next (endOperation ⟨wrap loc.out, .checksum, false⟩ { s with rxFifo := [] }) := by
  simp only [readResume, readExactly_all hlen, parseReadRsp_badChecksum hlen hv hchk]

/-- A good block with a zero pair ends it before the pair. -/
theorem readResume_pair {j : Nat} (hlen : s.rxFifo.length = 22)
    (hchk : s.cfg.validateRx = true → verifyChecksum s.rxFifo = true)
    (hj : findPair ((s.rxFifo.drop 5).take 16) = some j) :
    readResume i wrap loc s =
      .next (endOperation ⟨wrap (loc.out ++ ((s.rxFifo.drop 5).take 16).take j), .ok, false⟩
        { s with rxFifo := [] }) := by
  simp only [readResume, readExactly_all hlen, parseReadRsp_accepted hlen hchk, hj]

/-- A good block without one lets it go on. -/
theorem readResume_goesOn (hlen : s.rxFifo.length = 22)
    (hchk : s.cfg.validateRx = true → verifyChecksum s.rxFifo = true)
    (hnone : findPair ((s.rxFifo.drop 5).take 16) = none) :
    readResume i wrap loc s =
      readFrom i wrap (loc.k + 1) (loc.out ++ (s.rxFifo.drop 5).take 16) { s with rxFifo := [] } := by
  simp only [readResume, readExactly_all hlen, parseReadRsp_accepted hlen hchk, hnone]

/-- READ_STREAM past the last block ends. -/
theorem readFrom_end {k : Nat} {out : Bytes} (h : (blockSeq s.cfg)[k]? = none) :
    readFrom i wrap k out s = .next (endOperation ⟨wrap out, .ok, false⟩ s) := by
  rw [readFrom, h]

end Reads

/-- Settles O23: FIND_PAIR on the block, and READ_STREAM at the next cursor. -/
theorem streamReadGoesOnOrEnds : Obligations.StreamReadGoesOnOrEnds := by
  rintro i wrap s k out stream blk hi hs hlen hchk rfl
  rw [exec_read_settled hi hs]
  refine ⟨fun j hj => ?pair, fun hnone hend => ?last, fun b hnone hb => ?next⟩
  case pair =>
    rw [readResume_pair hlen hchk hj]
    exact congrArg _ (endOperation_taken _ _)
  case last =>
    rw [readResume_goesOn hlen hchk hnone]
    exact (readFrom_end (s := { s with rxFifo := [] }) hend).trans (congrArg _ (endOperation_taken _ _))
  case next =>
    rw [readResume_goesOn hlen hchk hnone]
    exact readFrom_block hb

/-- Settles O24: the two failures of a block read. -/
theorem streamReadFailureKeepsWhatWasRead : Obligations.StreamReadFailureKeepsWhatWasRead := by
  intro i wrap s k out stream hi hs
  rw [exec_read_settled hi hs]
  refine ⟨fun hlen => ?none, fun hlen hv hchk => ?bad⟩
  case none => exact (readResume_noData hlen).trans (congrArg _ (endOperation_eq _ _))
  case bad => exact (readResume_badChecksum hlen hv hchk).trans (congrArg _ (endOperation_taken _ _))

end Sys2Proof.Machine
end


-- ==== Sys2Proof/Proofs/FramesOnLine.lean ====
section
/-!
The frames on the line (42_transport.md R174, R175, R179, R183, 20_memory.md R54, R62, R63), and O9, O28, O29, O30 and
O31: a request frame goes out through `transmit`, a response frame arrives through `deliver`, and SIMPARTNER answers
what the decoder reads from the frame.
-/

namespace Sys2Proof.Machine

/-! ### BUILD_BLOCK_WRITE -/

/-- Settles O9: FILL_CHECKSUM replaces the last byte of the 23, and another length builds nothing. -/
theorem blockWriteNeedsSixteenBytes : Obligations.BlockWriteNeedsSixteenBytes := by
  refine fun b d s => ⟨fun hd => ?_, fun hd => ?_⟩
  · rw [buildBlockWrite, if_pos hd, fillTxBuf]
    simp only [fillChecksum_append]
  · have hrefused : buildBlockWrite b d s = .error .blockDataLength := by rw [buildBlockWrite_eq, if_neg hd]
    exact ⟨hrefused, by rw [exec, execBlockWrite, hrefused]⟩

/-! ### Request frames -/

/-- A request frame that can be sent: a BLOCK_WRITE has 16 data bytes. -/
def Sendable (i : Instr) : Prop := i = .uidQuery ∨ (∃ b, i = .blockRead b) ∨ ∃ b d, i = .blockWrite b d ∧ d.length = 16

/-- A request frame is built in TX_BUF and sent from there. -/
theorem exec_sendable {i : Instr} (hi : Sendable i) (s : State) :
    exec i s = transmit { s with txBuf := frameBytes i } := by
  rcases hi with rfl | ⟨b, rfl⟩ | ⟨b, d, rfl, hd⟩
  · rfl
  · rw [exec, execBlockRead, buildBlockRead_eq]
  · rw [exec, execBlockWrite, buildBlockWrite_eq, if_pos hd]

/-- With the link up and the lock held it goes out. -/
theorem exec_sendable_sends {i : Instr} {s : State} (hi : Sendable i) (hc : s.conn = true) (hl : s.linkLock ≠ .free) :
    exec i s = .next (linkWrite (rxReset { s with txBuf := frameBytes i })) := by
  rw [exec_sendable hi]
  exact transmit_sends hc hl

/-- A frame that nobody answers leaves the receive buffer fresh. -/
theorem linkWrite_unanswered {s : State} (hp : s.partner = .oracle ∨ s.partner = .sim none) :
    linkWrite (rxReset s) =
      { s with wire := s.txBuf :: s.wire, txBuf := [], rxFifo := [], rxCap := s.cfg.rxCapacity } := by
  unfold linkWrite partnerReacts
  rcases hp with hp | hp <;> simp only [rxReset_partner, hp] <;> rfl

/-- Settles O28. -/
theorem requestFramesGoOut : Obligations.RequestFramesGoOut := by
  intro i s hi hc hl hp
  rw [exec_sendable_sends hi hc hl, linkWrite_unanswered (s := { s with txBuf := frameBytes i }) hp]

/-- Settles O29: `transmit` tests CONN and the lock. -/
theorem requestFramesOutOfPlaceAreRefused : Obligations.RequestFramesOutOfPlaceAreRefused := by
  intro i s hi hout
  rw [exec_sendable hi, transmit]
  rcases hout with hc | hl
  · simp [hc]
  · simp [hl]

/-! ### Response frames -/

/-- Settles O30: each response frame is delivered byte for byte. -/
theorem responseFramesArrive : Obligations.ResponseFramesArrive := by
  intro i s hi
  have hexec : exec i s = .next (deliver (frameBytes i) s) := by
    rcases hi with ⟨h, u, c, rfl⟩ | ⟨h, a, m, c, rfl⟩ | ⟨h, d, c, rfl⟩ <;> rfl
  rw [hexec, deliver_eq]

/-! ### SIMPARTNER -/

/-- A sendable frame decodes to its own instruction. -/
theorem decodeRequest_frameBytes {i : Instr} (hi : Sendable i) : decodeRequest (frameBytes i) = .ok i := by
  refine decodeRequest_ok_iff.mpr ?_
  rcases hi with rfl | ⟨b, rfl⟩ | ⟨b, d, rfl, hd⟩
  · exact ⟨rfl, rfl⟩
  · exact ⟨rfl, rfl⟩
  · exact ⟨beq_iff_eq.mpr hd, rfl⟩

/-- SIMPARTNER's answer to the UID query (20_memory.md R63). -/
def uidReply (u : Uid) : Bytes :=
  fillChecksum ([0x01#8, 0x0C#8, 0xA1#8, 0x00#8, 0x00#8, 0x00#8, 0x00#8] ++ uidBytes u ++ [0x00#8])

/-- Its answer to a block read. -/
def blockReply (data : Bytes) : Bytes :=
  fillChecksum ([0x01#8, 0x16#8, 0xA3#8, 0x00#8, 0x00#8] ++ data ++ [0x00#8])

/-- Its acknowledgement of a block write. -/
def ackReply : Bytes := [0x01#8, 0x08#8, 0xA4#8, 0#8, 0#8, 0#8, 0#8, 0x52#8]

theorem uidReply_length (u : Uid) : (uidReply u).length = 12 := by
  rw [uidReply, length_fillChecksum]
  rfl

theorem blockReply_length {data : Bytes} (h : data.length = 16) : (blockReply data).length = 22 := by
  rw [blockReply, length_fillChecksum]
  simp [h]

theorem readBlock_length (m : Memory) (b : Byte) : (readBlock m b).length = 16 := by simp [readBlock]

theorem simReply_uidQuery (u : Uid) (tag : Memory) :
    simReply (some u) tag (frameBytes .uidQuery) = (uidReply u, tag) := by
  simp only [simReply, decodeRequest_frameBytes (.inl rfl), uidReply]

theorem simReply_blockRead (u : Uid) (tag : Memory) (b : Byte) :
    simReply (some u) tag (frameBytes (.blockRead b)) = (blockReply (readBlock tag b), tag) := by
  simp only [simReply, decodeRequest_frameBytes (.inr (.inl ⟨b, rfl⟩)), blockReply]

theorem simReply_blockWrite (u : Uid) (tag : Memory) (b : Byte) {d : Bytes} (hd : d.length = 16) :
    simReply (some u) tag (frameBytes (.blockWrite b d)) = (ackReply, writeBlock tag b d) := by
  have hack : fillChecksum [0x01#8, 0x08#8, 0xA4#8, 0#8, 0#8, 0#8, 0#8, 0#8] = ackReply := by decide
  simp only [simReply, decodeRequest_frameBytes (.inr (.inr ⟨b, d, rfl, hd⟩)), hack]

/-- A frame that SIMPARTNER answers: its reply fills the fresh receive buffer, where it fits. -/
theorem linkWrite_answered {s : State} {u : Uid} {reply : Bytes} {tag : Memory} (hp : s.partner = .sim (some u))
    (hreply : simReply (some u) s.tag s.txBuf = (reply, tag)) (hfits : reply.length ≤ s.cfg.rxCapacity) :
    linkWrite (rxReset s) =
      { s with wire := s.txBuf :: s.wire, txBuf := [], rxFifo := reply, rxCap := s.cfg.rxCapacity, tag := tag } := by
  have htake : reply.take s.cfg.rxCapacity = reply := List.take_of_length_le hfits
  unfold linkWrite partnerReacts
  simp only [rxReset_partner, rxReset_txBuf, rxReset_tag, hp, hreply, deliver_eq, rxReset_rxFifo, rxReset_rxCap,
    List.nil_append, List.length_nil, Nat.sub_zero, htake]
  rfl

/-- Settles O31: the reply to each frame, and for a block write what TAG reads after it. -/
theorem simPartnerAnswers : Obligations.SimPartnerAnswers := by
  intro s u b d hc hl hp hcap hd
  have sent {i : Instr} {reply : Bytes} {tag : Memory} (hi : Sendable i)
      (hreply : simReply (some u) s.tag (frameBytes i) = (reply, tag)) (hlen : reply.length ≤ 22) :
      ∃ t, exec i s = .next t ∧ t.tag = tag ∧ t.rxFifo = reply :=
    ⟨_, (exec_sendable_sends hi hc hl).trans (congrArg _ (linkWrite_answered (s := { s with txBuf := frameBytes i }) hp
      hreply (hlen.trans hcap))), rfl, rfl⟩
  refine ⟨?uid, ?read, ?write⟩
  case uid => exact sent (.inl rfl) (simReply_uidQuery u s.tag) ((uidReply_length u).le.trans (by decide))
  case read =>
    exact sent (.inr (.inl ⟨b, rfl⟩)) (simReply_blockRead u s.tag b) (blockReply_length (readBlock_length _ _)).le
  case write =>
    obtain ⟨t, hexec, htag, hfifo⟩ :=
      sent (.inr (.inr ⟨b, d, rfl, hd⟩)) (simReply_blockWrite u s.tag b hd) (by decide)
    refine ⟨t, hexec, hfifo, ?_, fun a ha => ?_⟩
    · rw [htag, readBlock_writeBlock_self _ _ hd]
    · rw [htag, readByte_writeBlock_other _ _ _ ha]

end Sys2Proof.Machine
end


-- ==== Sys2Proof/Proofs/Blocks.lean ====
section
/-!
FIND_PAIR and BLOCK_SEQ (43_block_io.md R200, R203), and O25 and O26.
-/

namespace Sys2Proof.Machine

/-! ### FIND_PAIR -/

/-- Two zero bytes stand at offset `i`. -/
def ZeroPairAt (blk : Bytes) (i : Nat) : Prop := blk[i]? = some 0#8 ∧ blk[i + 1]? = some 0#8

theorem zeroPairAt_zero (a b : Byte) (rest : Bytes) : ZeroPairAt (a :: b :: rest) 0 ↔ a = 0#8 ∧ b = 0#8 := by
  simp [ZeroPairAt]

/-- The least offset of a pair in a longer sequence, where the first offset has none. -/
theorem leastPair_cons {a : Byte} {blk : Bytes} (h : ¬ ZeroPairAt (a :: blk) 0) (i : Nat) :
    (ZeroPairAt (a :: blk) i ∧ ∀ j < i, ¬ ZeroPairAt (a :: blk) j) ↔
      ∃ k, (ZeroPairAt blk k ∧ ∀ j < k, ¬ ZeroPairAt blk j) ∧ k + 1 = i := by
  constructor
  · rintro ⟨hpair, hleast⟩
    cases i with
    | zero => exact absurd hpair h
    | succ k => exact ⟨k, ⟨hpair, fun j hj => hleast (j + 1) (Nat.succ_lt_succ hj)⟩, rfl⟩
  · rintro ⟨k, ⟨hpair, hleast⟩, rfl⟩
    refine ⟨hpair, fun j hj => ?_⟩
    cases j with
    | zero => exact h
    | succ j => exact hleast j (Nat.lt_of_succ_lt_succ hj)

/-- FIND_PAIR is the least offset of a pair. -/
theorem findPair_eq_some_iff (blk : Bytes) (i : Nat) :
    findPair blk = some i ↔ ZeroPairAt blk i ∧ ∀ j < i, ¬ ZeroPairAt blk j := by
  induction blk generalizing i with
  | nil => simp [findPair, ZeroPairAt]
  | cons a tail ih =>
    cases tail with
    | nil => simp [findPair, ZeroPairAt]
    | cons b rest =>
      rw [findPair]
      by_cases hzero : a = 0x00#8 ∧ b = 0x00#8
      · have hpair : ZeroPairAt (a :: b :: rest) 0 := (zeroPairAt_zero a b rest).mpr hzero
        rw [if_pos hzero]
        constructor
        · rintro ⟨⟩
          exact ⟨hpair, nofun⟩
        · rintro ⟨-, hleast⟩
          rw [Nat.eq_zero_of_not_pos fun hpos => hleast 0 hpos hpair]
      · rw [if_neg hzero, leastPair_cons (mt (zeroPairAt_zero a b rest).mp hzero), Option.map_eq_some_iff]
        simp only [ih]

/-- Settles O25; the second byte of a pair in a 16-byte block stands at offset 15 at most. -/
theorem findPairIsTheFirstZeroPair : Obligations.FindPairIsTheFirstZeroPair := by
  refine fun blk i => ⟨(findPair_eq_some_iff blk i).trans and_assoc, fun hlen hi => ?_⟩
  obtain ⟨⟨-, hsecond⟩, -⟩ := (findPair_eq_some_iff blk i).mp hi
  obtain ⟨hlt, -⟩ := List.getElem?_eq_some_iff.mp hsecond
  omega

/-! ### BLOCK_SEQ -/

/-- The usable indices rise strictly. -/
theorem usableBlocks_ascending (p : Params) : (usableBlocks p).Pairwise fun b c => b.toNat < c.toNat := by
  refine List.Pairwise.filter _ (List.pairwise_map.mpr ?_)
  refine (List.pairwise_lt_range' (s := p.base.toNat)).imp_of_mem fun {m n} hm hn hlt => ?_
  have hbase : p.base.toNat < 256 := p.base.isLt
  rw [List.mem_range'_1] at hm hn
  rw [BitVec.toNat_ofNat, BitVec.toNat_ofNat, Nat.mod_eq_of_lt (by omega), Nat.mod_eq_of_lt (by omega)]
  exact hlt

/-- An index is usable when it is no lower than the base and not reserved. -/
theorem mem_usableBlocks {p : Params} {b : Byte} :
    b ∈ usableBlocks p ↔ p.base.toNat ≤ b.toNat ∧ b ∉ p.reserved := by
  have hb : b.toNat < 256 := b.isLt
  simp only [usableBlocks, List.mem_filter, List.mem_map, List.mem_range'_1, Bool.not_eq_true', List.contains_eq_mem,
    decide_eq_false_iff_not]
  refine and_congr_left fun _ => ⟨?_, fun hle => ⟨b.toNat, by omega, BitVec.ofNat_toNat 8 b⟩⟩
  rintro ⟨n, hn, rfl⟩
  rw [BitVec.toNat_ofNat, Nat.mod_eq_of_lt (by omega)]
  exact hn.1

/-- A usable index that BLOCK_SEQ leaves out comes after the whole of it, and the budget is used up. -/
theorem blockSeq_before {p : Params} {c : Byte} (hc : c ∈ usableBlocks p) (hout : c ∉ blockSeq p) :
    (blockSeq p).length = budgetBlocks p.budget ∧ ∀ b ∈ blockSeq p, b.toNat < c.toNat := by
  have hsplit : blockSeq p ++ (usableBlocks p).drop (budgetBlocks p.budget) = usableBlocks p :=
    List.take_append_drop _ _
  have hdrop : c ∈ (usableBlocks p).drop (budgetBlocks p.budget) := by
    rw [← hsplit, List.mem_append] at hc
    exact hc.resolve_left hout
  constructor
  · have hpos := List.length_pos_of_mem hdrop
    rw [List.length_drop] at hpos
    rw [blockSeq, List.length_take]
    omega
  · have hasc := usableBlocks_ascending p
    rw [← hsplit, List.pairwise_append] at hasc
    obtain ⟨-, -, hbefore⟩ := hasc
    exact fun b hb => hbefore b hb c hdrop

/-- Legal parameters give as many blocks as the budget (00_scope.md R9). -/
theorem blockSeq_length {p : Params} (h : paramsLegal p = true) : (blockSeq p).length = budgetBlocks p.budget := by
  simp only [paramsLegal, Bool.and_eq_true, decide_eq_true_eq] at h
  exact h.2

/-- Settles O26: BLOCK_SEQ begins the list of the usable indices, which rise. -/
theorem blockSeqIsTheFirstUsableBlocks : Obligations.BlockSeqIsTheFirstUsableBlocks :=
  fun p => ⟨(usableBlocks_ascending p).sublist (List.take_sublist _ _),
    fun _ hb => mem_usableBlocks.mp (List.mem_of_mem_take hb),
    fun _ hbase hreserved => blockSeq_before (mem_usableBlocks.mpr ⟨hbase, hreserved⟩),
    blockSeq_length, by decide⟩

end Sys2Proof.Machine
end


-- ==== Sys2Proof/Proofs/StepForms.lean ====
section
/-!
What the step does with a placed move (00_scope.md R11, 30_encoding.md R95, R100 to R102, 45_poll_loop.md R262 to
R271), and O40 to O45, O36 and O37.
-/

namespace Sys2Proof.Machine

/-! ### Requests, frames and responses -/

theorem taskOf_withEvents (s : State) (evs : List Event) (a : Agent) :
    taskOf { s with events := evs } a = taskOf s a := taskOf_congr rfl rfl rfl a

/-- An agent that may issue an operation and is inside none runs what its request spells. -/
theorem stepRequest_runs {a : Agent} {op : Byte} {args : List HostVal} {i : Instr} {s : State}
    (hidle : taskOf s a = none) (hcan : canIssue s a = true) (hi : decode (.host op args) = .ok i) :
    stepRequest a op args s = exec i { s with current := a } := by
  simp [stepRequest, hidle, hi, hcan]

/-- Settles O40. -/
theorem stepRunsTheRequestedOperation : Obligations.StepRunsTheRequestedOperation := by
  intro s a op args rest i htx hev hidle hcan hi
  rw [step_placed htx hev]
  exact stepRequest_runs ((taskOf_withEvents s rest a).trans hidle) hcan hi

/-- Settles O41. -/
theorem stepRunsTheFrameInTxBuf : Obligations.StepRunsTheFrameInTxBuf := by
  intro s i htx hi
  rw [step_frame htx, stepFrame, hi]

/-- A response of the unconstrained PARTNER runs as its instruction. -/
theorem stepReceive_runs {bytes : Bytes} {i : Instr} {s : State} (hp : s.partner = .oracle)
    (hi : decode (.response bytes) = .ok i) : stepReceive bytes s = exec i s := by
  rw [stepReceive, if_pos hp, hi]

/-- Settles O42. -/
theorem stepRunsTheResponse : Obligations.StepRunsTheResponse := by
  intro s bytes rest i htx hev hp hi
  rw [step_placed htx hev]
  exact stepReceive_runs (s := { s with events := rest }) hp hi

/-! ### Agents that go on -/

/-- An agent other than POLL goes on with the operation it is inside. -/
theorem stepRun_resumes {a : Agent} {task : Task} {s : State} (ha : a ≠ .poll) (htask : taskOf s a = some task) :
    stepRun a s = exec task.op { s with current := a } := by
  simp [stepRun, ha, htask]

/-- Picked, POLL takes its next step. -/
theorem stepRun_poll (s : State) : stepRun .poll s = pollStep { s with current := .poll } := if_pos rfl

/-- While Detecting and inside its probe, POLL goes on with it (45_poll_loop.md R263). -/
theorem pollStep_detecting {s : State} (hd : s.doneSignal = false) (hp : s.pollState = .detecting)
    (htask : s.pollTask ≠ none) : pollStep s = exec .isCardPresent s := by
  simp [pollStep, hd, hp, htask, exec]

/-- Settles O43. -/
theorem stepResumesTheOperation : Obligations.StepResumesTheOperation := by
  intro s a rest task htx hev htask
  rw [step_placed htx hev]
  refine ⟨fun ha => ?other, fun ha hd hp => ?poll⟩
  case other => exact stepRun_resumes ha ((taskOf_withEvents s rest a).trans htask)
  case poll =>
    subst ha
    have hsome : s.pollTask = some task := htask
    refine (stepRun_poll _).trans (pollStep_detecting (s := { s with events := rest, current := .poll }) hd hp ?_)
    rw [hsome]
    nofun

/-! ### POLL's tick and its waits -/

/-- Idle, not signalled and with its timer expired, POLL ticks (45_poll_loop.md R262). -/
theorem pollStep_ticks {s : State} (hd : s.doneSignal = false) (hi : s.pollState = .idle) (hz : s.pollTimer = 0) :
    pollStep s = pollTick s := by
  simp [pollStep, hd, hi, hz]

/-- A tick whose condition holds starts a detection. -/
theorem pollTick_detects {s : State} (hc : s.conn = true) (hv : s.handlerValid = true) (hb : s.busy = false) :
    pollTick s = execIsCardPresent { s with pollState := .detecting } := by
  simp [pollTick, tickCondition, eventEnabled, eventMasked, hc, hv, hb]

/-- A tick whose condition is false only starts the interval. -/
theorem pollTick_waits {s : State} (h : s.conn = false ∨ s.handlerValid = false ∨ s.busy = true) :
    pollTick s = .next (startInterval s) := by
  refine if_neg ?_
  rcases h with h | h | h <;> simp [tickCondition, eventEnabled, eventMasked, h]

/-- A step that picks POLL is a step of POLL. -/
theorem step_run_poll {s : State} {rest : List Event} (htx : s.txBuf = []) (hev : s.events = .run .poll :: rest) :
    step s = pollStep { s with events := rest, current := .poll } :=
  (step_placed htx hev).trans (stepRun_poll _)

section Ticks

variable {s : State} (ha : s.current = .poll) (htask : s.pollTask = none) (hc : s.conn = true)
  (hv : s.handlerValid = true) (hb : s.busy = false)
include ha htask hc hv hb

/-- A tick that finds the lock free builds the UID query and starts its settle delay. -/
theorem pollTick_lockFree (hl : s.linkLock = .free) :
    pollTick s = .next { s with
      pollState := .detecting, linkLock := .held .poll, settleTimer := s.cfg.settleMs, txBuf := frameBytes .uidQuery,
      pollTask := some ⟨.isCardPresent, .settle ⟨0, [], []⟩⟩ } := by
  have hready : Ready { s with pollState := .detecting } .isCardPresent := .inl (by rw [ha]; exact htask)
  rw [pollTick_detects hc hv hb, execIsCardPresent, linkOperation_granted hready hl]
  simp only [hc, if_true, awaitResponse, buildUidQuery_current, ha]
  rfl

/-- A tick that finds the lock held waits for it. -/
theorem pollTick_lockHeld {a : Agent} (hl : s.linkLock = .held a) :
    pollTick s = .next { s with pollState := .detecting, pollTask := some ⟨.isCardPresent, .lockWait⟩ } := by
  have hready : Ready { s with pollState := .detecting } .isCardPresent := .inl (by rw [ha]; exact htask)
  rw [pollTick_detects hc hv hb, execIsCardPresent, linkOperation_waits hready hl]
  simp only [ha]
  rfl

end Ticks

/-- Settles O36: the tick's condition, and the lock that the detection finds. -/
theorem tickDetectsOrWaits : Obligations.TickDetectsOrWaits := by
  intro s rest htx hev hd hi hz htask
  have hstep : step s = pollTick { s with events := rest, current := .poll } :=
    (step_run_poll htx hev).trans (pollStep_ticks hd hi hz)
  rw [hstep]
  exact ⟨fun hc hv hb hl => pollTick_lockFree (s := { s with events := rest, current := .poll }) rfl htask hc hv hb hl,
    fun a hc hv hb hl => pollTick_lockHeld (s := { s with events := rest, current := .poll }) rfl htask hc hv hb hl,
    fun h => pollTick_waits (s := { s with events := rest, current := .poll }) h⟩

/-- Settles O37. -/
theorem pollWaitsForTheCallback : Obligations.PollWaitsForTheCallback := by
  intro s rest htx hev
  rw [step_run_poll htx hev]
  exact ⟨pollStep_signalled (s := { s with events := rest, current := .poll }),
    pollStep_dispatching (s := { s with events := rest, current := .poll })⟩

/-! ### The outside world -/

/-- Settles O44: each move by its own step function. -/
theorem outsideMovesChangeOnlyTheirPart : Obligations.OutsideMovesChangeOnlyTheirPart := by
  intro s rest htx
  refine ⟨fun d hev => ?time, fun bytes hev hp => ?delivery, fun bytes card hev hp => ?silence,
    fun card card' hev hp => ?card⟩ <;> rw [step_placed htx hev, stepEvent]
  case time => rfl
  case delivery =>
    rw [stepReceive_eq, deliver_eq]
    exact if_pos hp
  case silence =>
    rw [stepReceive_eq]
    exact if_neg (by simp [hp])
  case card => exact if_neg (by simp [hp])

/-! ### Placed words -/

/-- What is read from a table word is decoded from the message it stands for. -/
theorem tableMessage_of_decodeTableWord {nbits w : Nat} {i : Instr} (h : decodeTableWord nbits w = some i) :
    ∃ m, tableMessage nbits w = some m ∧ decode m = .ok i := by
  unfold decodeTableWord at h
  split at h
  next => cases h
  next m hm =>
    split at h
    next hi => cases h; exact ⟨m, hm, hi⟩
    next => cases h

/-- A placed request frame is the next thing to run. -/
theorem step_placed_frame {frame : Bytes} {i : Instr} (s : State) (hi : decode (.request frame) = .ok i) :
    step (placeMessage (.request frame) s) = exec i (placeMessage (.request frame) s) :=
  stepRunsTheFrameInTxBuf _ i (by rintro rfl; cases hi) hi

/-- A placed host request is run by the agent that issues it (log 19). -/
theorem step_placed_host {op : Byte} {args : List HostVal} {i : Instr} (s : State)
    (hi : decode (.host op args) = .ok i) :
    step (placeMessage (.host op args) s) =
      exec i { placeMessage (.host op args) s with
        events := s.events, current := if i = .handlerDone then .handler else .host 1 } := by
  have hdone : i = .handlerDone ↔ op = 0x0C#8 := by
    refine ⟨fun h => decodeHost_handlerDone (h ▸ hi), ?_⟩
    rintro rfl
    have henc := encode_of_decodeHost hi
    cases i <;> cases henc
    rfl
  by_cases hop : op = 0x0C#8
  · rw [placeMessage, if_pos hop, if_pos (hdone.mpr hop)]
    exact stepRunsTheRequestedOperation _ .handler op args s.events i rfl rfl rfl rfl hi
  · rw [placeMessage, if_neg hop, if_neg (mt hdone.mp hop)]
    refine stepRunsTheRequestedOperation _ (.host 1) op args s.events i rfl rfl ?_ rfl hi
    exact (taskOf_congr rfl rfl rfl _).trans (taskOf_setTask_self s (.host 1) none)

/-- A placed response is run as PARTNER's delivery. -/
theorem step_placed_response {frame : Bytes} {i : Instr} (s : State) (hi : decode (.response frame) = .ok i) :
    step (placeMessage (.response frame) s) = exec i { placeMessage (.response frame) s with events := s.events } :=
  stepRunsTheResponse _ frame s.events i rfl rfl rfl hi

/-- Settles O45: one lemma for each kind of message. -/
theorem placedWordRunsNext : Obligations.PlacedWordRunsNext := by
  intro s nbits w i hw
  obtain ⟨m, hm, hi⟩ := tableMessage_of_decodeTableWord hw
  have hplaced : s.withFetchWord nbits w = placeMessage m s := by rw [State.withFetchWord, hm]
  rw [hplaced]
  refine ⟨m, hm, hi, rfl, ?_, ?_, ?_⟩
  · rintro frame rfl
    exact step_placed_frame s hi
  · rintro op args rfl
    exact step_placed_host s hi
  · rintro frame rfl
    exact step_placed_response s hi

end Sys2Proof.Machine
end


-- ==== Sys2Proof/Proofs/Sessions.lean ====
section
/-!
Whole operations under SIMPARTNER (20_memory.md R63, 42_transport.md R178, R179), and O57. A run is cut at the frames:
`Standby` is the state before an operation, `Session` the one in which it has built a frame, and `runSteps_exchange`
the three steps of one transaction: the frame goes out and is answered (log 14), the settle delay passes, the agent
goes on.
-/

namespace Sys2Proof.Machine

/-! ### Runs -/

theorem runSteps_succ {s t : State} (h : step s = .next t) (n : Nat) : runSteps (n + 1) s = runSteps n t := by
  rw [runSteps, h]

/-- A run goes on where a shorter one has ended. -/
theorem runSteps_add {m : Nat} {s t : State} (h : runSteps m s = .next t) (n : Nat) :
    runSteps (m + n) s = runSteps n t := by
  induction m generalizing s with
  | zero =>
    cases h
    rw [Nat.zero_add]
  | succ m ih =>
    rw [runSteps] at h
    split at h
    next u hu => rw [Nat.succ_add, runSteps_succ hu, ih h]
    next => cases h
    next => cases h

/-! ### The states between the steps -/

/-- SIMPARTNER with a card is at the other end of an open link, agent `a` may issue operations, and the moves `evs` are
placed. -/
structure Setting (u : Uid) (a : Agent) (evs : List Event) (s : State) : Prop where
  legal : paramsLegal s.cfg = true
  partner : s.partner = .sim (some u)
  conn : s.conn = true
  issues : canIssue s a = true
  events : s.events = evs

/-- Agent `a` is inside nothing, the lock is free and no frame is pending. -/
structure Standby (u : Uid) (a : Agent) (evs : List Event) (s : State) : Prop extends Setting u a evs s where
  free : s.linkLock = .free
  sent : s.txBuf = []
  idle : taskOf s a = none

/-- Agent `a` has built a frame for `op`, holds the lock and starts its settle delay. -/
structure Session (u : Uid) (a : Agent) (op : Instr) (loc : Locals) (evs : List Event) (s : State) : Prop
    extends Setting u a evs s where
  held : s.linkLock ≠ .free
  task : taskOf s a = some ⟨op, .settle loc⟩
  timer : s.settleTimer = s.cfg.settleMs

/-- Agent `a` is picked, holds the lock and has no frame pending. -/
structure Turn (u : Uid) (a : Agent) (evs : List Event) (s : State) : Prop extends Setting u a evs s where
  held : s.linkLock ≠ .free
  picked : s.current = a
  sent : s.txBuf = []

/-- The frame in TX_BUF has gone out and its reply has arrived. -/
def replied (s : State) (reply : Bytes) (tag : Memory) : State :=
  { s with wire := s.txBuf :: s.wire, txBuf := [], rxFifo := reply, rxCap := s.cfg.rxCapacity, tag := tag }

/-- Then the settle delay has passed. -/
def waited (s : State) (reply : Bytes) (tag : Memory) (evs : List Event) : State :=
  { replied s reply tag with
    pollTimer := s.pollTimer - s.cfg.settleMs, settleTimer := s.settleTimer - s.cfg.settleMs, events := evs }

/-- Then agent `a` is picked. -/
def answered (s : State) (a : Agent) (reply : Bytes) (tag : Memory) (evs : List Event) : State :=
  { waited s reply tag evs with current := a }

/-- Agent `a`'s request has been granted the lock. -/
def granted (s : State) (a : Agent) (evs : List Event) : State :=
  { s with events := evs, current := a, linkLock := .held a }

section Settings

variable {u : Uid} {a : Agent} {evs evs' : List Event} {s t : State}

theorem setting_congr (h : Setting u a evs s) (hcfg : t.cfg = s.cfg) (hpartner : t.partner = s.partner)
    (hconn : t.conn = s.conn) (hpoll : t.pollState = s.pollState) (hevents : t.events = evs') :
    Setting u a evs' t where
  legal := hcfg ▸ h.legal
  partner := hpartner.trans h.partner
  conn := hconn.trans h.conn
  issues := by
    have hissues := h.issues
    cases a with
    | handler => rw [canIssue, hpoll]; exact hissues
    | _ => exact hissues
  events := hevents

/-- An agent that may issue operations is not POLL. -/
theorem Setting.ne_poll (h : Setting u a evs s) : a ≠ .poll := by
  rintro rfl
  cases h.issues

/-- An agent whose turn it is builds its operation's next frame. -/
theorem session_awaitResponse (op : Instr) (loc : Locals) (f : Bytes) (h : Turn u a evs s) :
    Session u a op loc evs (awaitResponse op loc { s with txBuf := f }) where
  toSetting := setting_congr h.toSetting (awaitResponse_cfg _ _ _) (awaitResponse_partner _ _ _)
    (awaitResponse_conn _ _ _) (awaitResponse_pollState _ _ _) ((awaitResponse_events _ _ _).trans h.events)
  held := (awaitResponse_linkLock _ _ _).symm ▸ h.held
  task := by rw [← h.picked]; exact taskOf_awaitResponse_self _ _ _
  timer := by rw [awaitResponse_settleTimer, awaitResponse_cfg]

/-- An operation that ends leaves its agent ready for the next one. -/
theorem standby_endOperation (r : Result) (h : Turn u a evs s) : Standby u a evs (endOperation r s) where
  toSetting := setting_congr h.toSetting (endOperation_cfg _ _) (endOperation_partner _ _) (endOperation_conn _ _)
    (endOperation_pollState _ _) ((endOperation_events _ _).trans h.events)
  free := endOperation_linkLock _ _
  sent := (endOperation_txBuf _ _).trans h.sent
  idle := by rw [← h.picked, taskOf_endOperation_self]

theorem turn_granted (h : Standby u a evs s) : Turn u a evs' (granted s a evs') where
  toSetting := setting_congr h.toSetting rfl rfl rfl rfl rfl
  held := nofun
  picked := rfl
  sent := h.sent

/-- After a transaction it is its agent's turn. -/
theorem turn_answered {op : Instr} {loc : Locals} (h : Session u a op loc evs s) (reply : Bytes) (tag : Memory) :
    Turn u a evs' (answered s a reply tag evs') where
  toSetting := setting_congr h.toSetting rfl rfl rfl rfl rfl
  held := h.held
  picked := rfl
  sent := rfl

end Settings

/-- A request for a gated operation is granted the lock at once. -/
theorem step_request {u : Uid} {a : Agent} {evs : List Event} {s : State} {op : Byte} {args : List HostVal} {i : Instr}
    {val : Val} {go : State → Out} {resume : Locals → State → Out} (h : Standby u a (.request a op args :: evs) s)
    (hi : decode (.host op args) = .ok i)
    (hexec : ∀ v, exec i v = linkOperation i v (fun w => gated val w go) resume) : step s = go (granted s a evs) := by
  rw [stepRunsTheRequestedOperation s a op args evs i h.sent h.events h.idle h.issues hi, hexec]
  exact linkOperation_connected (s := { s with events := evs, current := a })
    (.inl ((taskOf_congr rfl rfl rfl a).trans h.idle)) h.free h.conn

/-! ### One transaction -/

section Exchanges

variable {u : Uid} {a : Agent} {op i : Instr} {loc : Locals} {evs : List Event} {s t : State} {reply : Bytes}
  {tag : Memory}

/-- Legal parameters leave room for the longest response (00_scope.md R8). -/
theorem rxCapacity_of_legal {p : Params} (h : paramsLegal p = true) : 22 ≤ p.rxCapacity := by
  simp only [paramsLegal, Bool.and_eq_true, decide_eq_true_eq] at h
  obtain ⟨⟨⟨hcap, -⟩, -⟩, -⟩ := h
  exact hcap

theorem frameBytes_ne_nil (hi : Sendable i) : frameBytes i ≠ [] := by
  rcases hi with rfl | ⟨b, rfl⟩ | ⟨b, d, rfl, -⟩ <;> exact List.cons_ne_nil _ _

/-- The frame goes out and is answered. -/
theorem step_answered {evs₀ : List Event} (hs : Session u a op loc evs₀ s) (hi : Sendable i)
    (htx : s.txBuf = frameBytes i) (hreply : simReply (some u) s.tag s.txBuf = (reply, tag))
    (hlen : reply.length ≤ 22) :
    step s = .next (replied s reply tag) := by
  have hdecode : decode (.request s.txBuf) = .ok i := htx ▸ decodeRequest_frameBytes hi
  rw [stepRunsTheFrameInTxBuf s i (htx ▸ frameBytes_ne_nil hi) hdecode, exec_sendable_sends hi hs.conn hs.held, ← htx]
  exact congrArg _ (linkWrite_answered hs.partner hreply (hlen.trans (rxCapacity_of_legal hs.legal)))

/-- In the answered state the settle delay is over. -/
theorem settled_answered {evs₀ : List Event} (hs : Session u a op loc evs₀ s) :
    Settled (answered s a reply tag evs) op loc := by
  refine ⟨(taskOf_congr rfl rfl rfl a).trans hs.task, ?_⟩
  show s.settleTimer - s.cfg.settleMs = 0
  rw [hs.timer, Nat.sub_self]

/-- One transaction: three steps lead to what `op` does with the reply. -/
theorem runSteps_exchange {d : Nat} (hs : Session u a op loc (.elapse d :: .run a :: evs) s)
    (hd : s.cfg.settleMs = d) (hi : Sendable i) (htx : s.txBuf = frameBytes i)
    (hreply : simReply (some u) s.tag s.txBuf = (reply, tag)) (hlen : reply.length ≤ 22)
    (hexec : exec op (answered s a reply tag evs) = .next t) (n : Nat) :
    runSteps (3 + n) s = runSteps n t := by
  subst hd
  have htime : step (replied s reply tag) = .next (waited s reply tag (.run a :: evs)) :=
    step_placed (s := replied s reply tag) rfl hs.events
  have hrun : step (waited s reply tag (.run a :: evs)) = exec op (answered s a reply tag evs) :=
    (stepResumesTheOperation (waited s reply tag (.run a :: evs)) a evs ⟨op, .settle loc⟩ rfl rfl
      ((taskOf_congr rfl rfl rfl a).trans hs.task)).1 hs.ne_poll
  rw [Nat.add_comm, runSteps_succ (step_answered hs hi htx hreply hlen), runSteps_succ htime,
    runSteps_succ (hrun.trans hexec)]

end Exchanges

/-! ### QUERY_UID -/

theorem uidAt_uidReply (u : Uid) : uidAt (uidReply u) = u := rfl

theorem verifyChecksum_uidReply (u : Uid) : verifyChecksum (uidReply u) = true :=
  verifyChecksum_fillChecksum (List.cons_ne_nil _ _)

/-- Settles O57: the request, and one transaction whose reply is the card's UID (O19). -/
theorem queryUidUnderSimPartner : Obligations.QueryUidUnderSimPartner := by
  intro s a u rest hlegal hp hc hl htx hidle hcan hev
  have hstandby : Standby u a (.request a 0x05#8 [] :: (resumes a s.cfg.settleMs 1 ++ rest)) s :=
    ⟨⟨hlegal, hp, hc, hcan, hev⟩, hl, htx, hidle⟩
  have hstart : step s = _ := step_request hstandby rfl fun v => by rw [exec, execQueryUid]
  have hsession := session_awaitResponse .queryUid noLocals (frameBytes .uidQuery)
    (turn_granted (evs' := resumes a s.cfg.settleMs 1 ++ rest) hstandby)
  set v := awaitResponse .queryUid noLocals
    { granted s a (resumes a s.cfg.settleMs 1 ++ rest) with txBuf := frameBytes .uidQuery } with hv
  have hvtx : v.txBuf = frameBytes .uidQuery := awaitResponse_txBuf _ _ _
  have hexec := (queryUidAnswers (answered v a (uidReply u) v.tag rest) noLocals (settled_answered hsession)).1
    (uidReply_length u) fun _ => verifyChecksum_uidReply u
  have hexchange := runSteps_exchange hsession (congrArg _ (awaitResponse_cfg _ _ _)) (.inl rfl) hvtx
    (hvtx ▸ simReply_uidQuery u v.tag) ((uidReply_length u).le.trans (by decide)) hexec 0
  refine ⟨_, (runSteps_succ hstart 3).trans hexchange, setTask_events _ _ _, rfl, ?_, uidAt_uidReply u, ?_, ?_⟩
  · exact (taskOf_congr rfl rfl rfl a).trans (taskOf_setTask_self _ _ _)
  · refine (setTask_wire _ _ _).trans ?_
    show v.txBuf :: v.wire = _
    rw [hvtx, hv, awaitResponse_wire]
    rfl
  · show (a, _) :: v.returns = _
    rw [hv, awaitResponse_returns]
    rfl

end Sys2Proof.Machine
end


-- ==== Sys2Proof/Proofs/StreamWrites.lean ====
section
/-!
A whole WRITE_STREAM under SIMPARTNER (43_block_io.md R204), and O58: what its chunks leave in TAG, and the run from
one block cursor to the end, by induction on the blocks left.
-/

namespace Sys2Proof.Machine

/-! ### The chunks in TAG -/

/-- TAG after the chunks of a stream, from chunk `k` on, have been written to the blocks `bs`. -/
def writeChunks (stream : Bytes) : Nat → List Byte → Memory → Memory
  | _, [], m => m
  | k, b :: bs, m => writeChunks stream (k + 1) bs (writeBlock m b (chunk stream k))

section Chunks

variable {stream : Bytes} {bs : List Byte} {b : Byte} {k : Nat} {m : Memory}

theorem readBlock_writeChunks_other (h : b ∉ bs) : readBlock (writeChunks stream k bs m) b = readBlock m b := by
  induction bs generalizing k m with
  | nil => rfl
  | cons c cs ih =>
    rw [List.mem_cons, not_or] at h
    obtain ⟨hne, hnotin⟩ := h
    rw [writeChunks, ih hnotin, readBlock_writeBlock_other _ _ hne]

/-- Each block holds its chunk, where no block comes twice. -/
theorem readBlock_writeChunks (hbs : bs.Nodup) {j : Nat} (hj : bs[j]? = some b) :
    readBlock (writeChunks stream k bs m) b = chunk stream (k + j) := by
  induction bs generalizing k m j with
  | nil => cases hj
  | cons c cs ih =>
    obtain ⟨hnotin, hcs⟩ := List.nodup_cons.mp hbs
    cases j with
    | zero =>
      cases hj
      rw [writeChunks, readBlock_writeChunks_other hnotin, readBlock_writeBlock_self _ _ (chunk_length _ _), Nat.add_zero]
    | succ j => rw [writeChunks, ih hcs hj, Nat.succ_add_eq_add_succ]

theorem readByte_writeChunks_other {x : Nat} (h : ∀ b ∈ bs, ∀ o < 16, x ≠ blockAddress b o) :
    readByte (writeChunks stream k bs m) x = readByte m x := by
  induction bs generalizing k m with
  | nil => rfl
  | cons c cs ih =>
    rw [List.forall_mem_cons] at h
    obtain ⟨hc, hcs⟩ := h
    rw [writeChunks, ih hcs, readByte_writeBlock_other _ _ _ hc]

end Chunks

/-- No block comes twice in BLOCK_SEQ. -/
theorem blockSeq_nodup (p : Params) : (blockSeq p).Nodup := by
  refine ((usableBlocks_ascending p).sublist (List.take_sublist _ _)).imp fun {b c} hlt heq => ?_
  exact absurd hlt (heq ▸ Nat.lt_irrefl _)

/-! ### The run -/

/-- `t` is the state in which a stream write, begun at chunk `k` in `s` with the blocks `bs` left, has ended. -/
structure Written (u : Uid) (a : Agent) (evs : List Event) (stream : Bytes) (k : Nat) (bs : List Byte) (s t : State) :
    Prop extends Standby u a evs t where
  cfg : t.cfg = s.cfg
  wire : t.wire.length = s.wire.length + bs.length
  returns : t.returns = (a, ⟨.bool true, .ok, truncated s.cfg stream.length⟩) :: s.returns
  tag : t.tag = writeChunks stream k bs s.tag

section Runs

variable {u : Uid} {a : Agent} {i : Instr} {evs : List Event} {s : State}

theorem verifyChecksum_ackReply : verifyChecksum ackReply = true := by decide

/-- An accepted acknowledgement takes WRITE_STREAM to the next block cursor. -/
theorem exec_write_acknowledged {k : Nat} {stream : Bytes} {tag : Memory} {evs₀ : List Event} (hi : IsWrite i)
    (hs : Session u a i ⟨k, [], stream⟩ evs₀ s) :
    exec i (answered s a ackReply tag evs) = writeFrom i stream (k + 1) (answered s a [] tag evs) := by
  rw [exec_write_settled hi (settled_answered hs),
    writeResume_ok rfl (parseWriteAck_accepted rfl (fun _ => verifyChecksum_ackReply) rfl)]
  rfl

/-- WRITE_STREAM from a block cursor to its end: one transaction for each block left. -/
theorem runSteps_writeFrom {stream : Bytes} {d : Nat} (hi : IsWrite i) (bs : List Byte) {k : Nat}
    (hbs : (writtenBlocks s.cfg stream.length).drop k = bs) (hd : s.cfg.settleMs = d)
    (hs : Turn u a (resumes a d bs.length ++ evs) s) :
    ∃ v t, writeFrom i stream k s = .next v ∧ runSteps (3 * bs.length) v = .next t ∧
      Written u a evs stream k bs s t := by
  induction bs generalizing k s with
  | nil =>
    have hend : (writtenBlocks s.cfg stream.length)[k]? = none :=
      List.getElem?_eq_none (List.drop_eq_nil_iff.mp hbs)
    refine ⟨_, _, by rw [writeFrom_eq, hend], rfl, standby_endOperation _ hs, endOperation_cfg _ _, ?_, ?_, ?_⟩
    · rw [endOperation_wire]; rfl
    · rw [endOperation_returns, hs.picked]
    · exact endOperation_tag _ _
  | cons b bs ih =>
    have hb : (writtenBlocks s.cfg stream.length)[k]? = some b := by
      rw [← Nat.add_zero k, ← List.getElem?_drop, hbs]; rfl
    have hrest : (writtenBlocks s.cfg stream.length).drop (k + 1) = bs := by
      rw [← List.drop_drop, hbs]; rfl
    have hsession := session_awaitResponse i ⟨k, [], stream⟩ (frameBytes (.blockWrite b (chunk stream k))) hs
    have hfrom := writeFrom_eq i stream k s
    simp only [hb] at hfrom
    set v := awaitResponse i ⟨k, [], stream⟩ { s with txBuf := frameBytes (.blockWrite b (chunk stream k)) } with hv
    have hcfg : v.cfg = s.cfg := awaitResponse_cfg _ _ _
    have hvtx : v.txBuf = frameBytes (.blockWrite b (chunk stream k)) := awaitResponse_txBuf _ _ _
    have htag : v.tag = s.tag := awaitResponse_tag _ _ _
    obtain ⟨v', t, hnext, hrun, hwritten⟩ := ih (hcfg ▸ hrest) (hcfg ▸ hd)
      (turn_answered hsession [] (writeBlock s.tag b (chunk stream k)))
    have hexchange := runSteps_exchange hsession (hcfg ▸ hd) (.inr (.inr ⟨b, _, rfl, chunk_length _ _⟩)) hvtx
      (by rw [hvtx, htag]; exact simReply_blockWrite u s.tag b (chunk_length _ _)) (by decide)
      ((exec_write_acknowledged hi hsession).trans hnext) (3 * bs.length)
    refine ⟨v, t, hfrom, ?_, hwritten.toStandby, hwritten.cfg.trans hcfg, ?_, ?_, hwritten.tag⟩
    · rw [List.length_cons, Nat.mul_succ, Nat.add_comm]
      exact hexchange.trans hrun
    · refine hwritten.wire.trans ?_
      show v.wire.length + 1 + bs.length = _
      rw [hv, awaitResponse_wire, List.length_cons, Nat.add_right_comm, Nat.add_assoc]
    · refine hwritten.returns.trans ?_
      show (a, (⟨.bool true, .ok, truncated v.cfg stream.length⟩ : Result)) :: v.returns = _
      rw [hcfg, hv, awaitResponse_returns]

/-- WRITE_BYTES from its request to its end. -/
theorem runSteps_writeBytes {data : Bytes} {bs : List Byte} (hbs : writtenBlocks s.cfg (terminated data).length = bs)
    (h : Standby u a (.request a 0x0A#8 [.bytes data] :: (resumes a s.cfg.settleMs bs.length ++ evs)) s) :
    ∃ t, runSteps (1 + 3 * bs.length) s = .next t ∧ Written u a evs (terminated data) 0 bs s t := by
  have hstart := step_request h rfl fun v => by rw [exec, execWriteBytes]
  obtain ⟨v, t, hnext, hrun, hwritten⟩ := runSteps_writeFrom (.inl ⟨data, rfl⟩) bs (k := 0) (s := granted s a _) hbs rfl
    (turn_granted (evs' := resumes a s.cfg.settleMs bs.length ++ evs) h)
  refine ⟨t, ?_, hwritten.toStandby, hwritten.cfg, hwritten.wire, hwritten.returns, hwritten.tag⟩
  rw [Nat.add_comm, runSteps_succ (hstart.trans hnext), hrun]

end Runs

/-- Settles O58: the run of WRITE_BYTES, and what its chunks leave in TAG. -/
theorem streamWriteUnderSimPartner : Obligations.StreamWriteUnderSimPartner := by
  intro s a u data n rest hlegal hp hc hl htx hidle hcan hn hev
  have hblocks : writtenBlocks s.cfg (terminated data).length = (blockSeq s.cfg).take n := by
    rw [writtenBlocks, List.take_eq_take_min, blockSeq_length hlegal, hn, terminated, List.length_append]
    rfl
  have hlen : ((blockSeq s.cfg).take n).length = n := by
    rw [List.length_take, blockSeq_length hlegal, hn]
    omega
  obtain ⟨t, hrun, hwritten⟩ := runSteps_writeBytes hblocks (evs := rest)
    ⟨⟨hlegal, hp, hc, hcan, hlen.symm ▸ hev⟩, hl, htx, hidle⟩
  obtain ⟨hstandby, -, hwire, hreturns, htag⟩ := hwritten
  rw [hlen] at hrun hwire
  refine ⟨t, hrun, hstandby.events, hstandby.free, hstandby.idle, hwire, ?_, fun k b hk hb => ?_, fun x hx => ?_⟩
  · rw [hreturns, truncated, terminated, List.length_append]
    rfl
  · have hmem : ((blockSeq s.cfg).take n)[k]? = some b := (List.getElem?_take_of_lt hk).trans hb
    rw [htag, readBlock_writeChunks ((blockSeq_nodup s.cfg).sublist (List.take_sublist _ _)) hmem, Nat.zero_add]
    rfl
  · rw [htag, readByte_writeChunks_other hx]

end Sys2Proof.Machine
end


-- ==== Sys2Proof/Proofs/RoundTrip.lean ====
section
/-!
Bytes written and read back under SIMPARTNER (43_block_io.md R203, R204, R205, R207), and O59 and O60: what READ_STREAM
returns is a function of the blocks alone (`ReadsTo`), and on the chunks of a terminated stream it is the data, with
the zeros up to the last chunk.
-/

namespace Sys2Proof.Machine

/-! ### What a stream read makes of the blocks -/

/-- READ_STREAM over the blocks `bs`, with `out` accumulated, finds a zero pair in the last of them and returns the
third argument. -/
inductive ReadsTo (m : Memory) : List Byte → Bytes → Bytes → Prop
  | pair {b : Byte} {out : Bytes} {j : Nat} (hj : findPair (readBlock m b) = some j) :
      ReadsTo m [b] out (out ++ (readBlock m b).take j)
  | goesOn {b : Byte} {bs : List Byte} {out res : Bytes} (hnone : findPair (readBlock m b) = none)
      (hrest : ReadsTo m bs (out ++ readBlock m b) res) : ReadsTo m (b :: bs) out res

theorem verifyChecksum_blockReply (data : Bytes) : verifyChecksum (blockReply data) = true :=
  verifyChecksum_fillChecksum (List.cons_ne_nil _ _)

/-- The data field of a block's reply is the block (30_encoding.md R92). -/
theorem data_blockReply {data : Bytes} (h : data.length = 16) : ((blockReply data).drop 5).take 16 = data := by
  rw [blockReply, fillChecksum_append]
  simp [← h]

/-- A block that starts what is left of a sequence stands at the cursor. -/
theorem head?_of_prefix_drop {seq bs : List Byte} {b : Byte} {k : Nat} (h : b :: bs <+: seq.drop k) :
    seq[k]? = some b := by
  obtain ⟨rest, hrest⟩ := h
  rw [← List.head?_drop, ← hrest]
  rfl

section Reads

variable {u : Uid} {a : Agent} {evs : List Event} {s : State} {k : Nat} {out : Bytes}

/-- READ_BYTES after the reply with a block: it ends before a zero pair, or goes on (O23). -/
theorem exec_read_replied {evs₀ : List Event} {blk : Bytes} {tag : Memory} (hblk : blk.length = 16)
    (hs : Session u a .readBytes ⟨k, out, []⟩ evs₀ s) :
    (∀ j, findPair blk = some j → exec .readBytes (answered s a (blockReply blk) tag evs) =
      .next (endOperation ⟨.bytes (out ++ blk.take j), .ok, false⟩ (answered s a [] tag evs))) ∧
    (findPair blk = none → exec .readBytes (answered s a (blockReply blk) tag evs) =
      readFrom .readBytes .bytes (k + 1) (out ++ blk) (answered s a [] tag evs)) := by
  have hlen := blockReply_length hblk
  have hdata := data_blockReply hblk
  rw [exec_read_settled (.inl ⟨rfl, rfl⟩) (settled_answered hs)]
  refine ⟨fun j hj => ?_, fun hnone => ?_⟩
  · refine (readResume_pair hlen (fun _ => verifyChecksum_blockReply blk) (hdata.symm ▸ hj)).trans ?_
    show Host.Outcome.next (endOperation ⟨.bytes (out ++ ((((blockReply blk).drop 5).take 16).take j)), _, _⟩ _) = _
    rw [hdata]
    rfl
  · refine (readResume_goesOn hlen (fun _ => verifyChecksum_blockReply blk) (hdata.symm ▸ hnone)).trans ?_
    show readFrom _ _ _ (out ++ (((blockReply blk).drop 5).take 16)) _ = _
    rw [hdata]
    rfl

/-- READ_STREAM at a block: one transaction, answered with the block. -/
theorem runSteps_readBlock {d : Nat} {b : Byte} (hb : (blockSeq s.cfg)[k]? = some b) (hd : s.cfg.settleMs = d)
    (hs : Turn u a (.elapse d :: .run a :: evs) s) :
    ∃ v, readFrom .readBytes .bytes k out s = .next v ∧
      Session u a .readBytes ⟨k, out, []⟩ (.elapse d :: .run a :: evs) v ∧ v.cfg = s.cfg ∧ v.returns = s.returns ∧
      ∀ t n, exec .readBytes (answered v a (blockReply (readBlock s.tag b)) s.tag evs) = .next t →
        runSteps (3 + n) v = runSteps n t := by
  have hsession := session_awaitResponse .readBytes ⟨k, out, []⟩ (frameBytes (.blockRead b)) hs
  set v := awaitResponse .readBytes ⟨k, out, []⟩ { s with txBuf := frameBytes (.blockRead b) } with hv
  have hcfg : v.cfg = s.cfg := awaitResponse_cfg _ _ _
  have hvtx : v.txBuf = frameBytes (.blockRead b) := awaitResponse_txBuf _ _ _
  have htag : v.tag = s.tag := awaitResponse_tag _ _ _
  have hreply : simReply (some u) v.tag v.txBuf = (blockReply (readBlock s.tag b), s.tag) := by
    rw [hvtx, htag, simReply_blockRead]
  exact ⟨v, readFrom_block hb, hsession, hcfg, awaitResponse_returns _ _ _, fun t n hexec =>
    runSteps_exchange hsession (hcfg ▸ hd) (.inr (.inl ⟨b, rfl⟩)) hvtx hreply
      (blockReply_length (readBlock_length _ _)).le hexec n⟩

/-- READ_STREAM from a block cursor to its end: one transaction for each block. -/
theorem runSteps_readFrom {d : Nat} {m : Memory} {bs : List Byte} {res : Bytes} (hread : ReadsTo m bs out res)
    (hm : s.tag = m) (hbs : bs <+: (blockSeq s.cfg).drop k) (hd : s.cfg.settleMs = d)
    (hs : Turn u a (resumes a d bs.length ++ evs) s) :
    ∃ v t, readFrom .readBytes .bytes k out s = .next v ∧ runSteps (3 * bs.length) v = .next t ∧ t.events = evs ∧
      t.returns = (a, ⟨.bytes res, .ok, false⟩) :: s.returns := by
  induction hread generalizing k s with
  | @pair b out j hj =>
    obtain ⟨v, hfrom, hsession, hcfg, hreturns, hexchange⟩ := runSteps_readBlock (head?_of_prefix_drop hbs) hd hs
    have hend := (exec_read_replied (tag := s.tag) (evs := evs) (readBlock_length _ _) hsession).1 j (hm ▸ hj)
    refine ⟨v, _, hfrom, hexchange _ 0 hend, endOperation_events _ _, ?_⟩
    rw [endOperation_returns, hm]
    exact congrArg _ hreturns
  | @goesOn b bs out res hnone hrest ih =>
    obtain ⟨v, hfrom, hsession, hcfg, hreturns, hexchange⟩ := runSteps_readBlock (head?_of_prefix_drop hbs) hd hs
    have hnext := (exec_read_replied (tag := s.tag) (evs := resumes a d bs.length ++ evs) (readBlock_length _ _)
      hsession).2 (hm ▸ hnone)
    have hprefix : bs <+: (blockSeq v.cfg).drop (k + 1) := by
      obtain ⟨rest, hrest⟩ := hbs
      rw [hcfg, ← List.tail_drop, ← hrest]
      exact List.prefix_append _ _
    obtain ⟨v', t, hfrom', hrun, hevents, hreturns'⟩ := ih (s := answered v a [] s.tag _) hm hprefix (hcfg ▸ hd)
      (turn_answered hsession [] s.tag)
    refine ⟨v, t, hfrom, ?_, hevents, hreturns'.trans (congrArg _ hreturns)⟩
    rw [List.length_cons, Nat.mul_succ, Nat.add_comm]
    exact (hexchange v' _ (hnext.trans (hm ▸ hfrom'))).trans hrun

/-- READ_BYTES from its request to its end. -/
theorem runSteps_readBytes {bs : List Byte} {res : Bytes} (hread : ReadsTo s.tag bs [] res) (hbs : bs <+: blockSeq s.cfg)
    (h : Standby u a (.request a 0x0B#8 [] :: (resumes a s.cfg.settleMs bs.length ++ evs)) s) :
    ∃ t, runSteps (1 + 3 * bs.length) s = .next t ∧ t.events = evs ∧
      t.returns = (a, ⟨.bytes res, .ok, false⟩) :: s.returns := by
  have hstart := step_request h rfl fun v => by rw [exec, execReadBytes]
  obtain ⟨v, t, hnext, hrun, hevents, hreturns⟩ := runSteps_readFrom (k := 0) (s := granted s a _) hread rfl hbs rfl
    (turn_granted (evs' := resumes a s.cfg.settleMs bs.length ++ evs) h)
  exact ⟨t, by rw [Nat.add_comm, runSteps_succ (hstart.trans hnext), hrun], hevents, hreturns⟩

end Reads

/-! ### The chunks of a terminated stream -/

/-- The first `n` bytes of the data followed by endless zeros. -/
def padded (data : Bytes) (n : Nat) : Bytes := (List.range n).map fun x => data.getD x 0#8

theorem padded_self (data : Bytes) : padded data data.length = data := by
  refine List.ext_getElem (by simp [padded]) fun i h₁ h₂ => ?_
  simp [padded, List.getElem?_eq_getElem h₂]

theorem padded_length_succ (data : Bytes) : padded data (data.length + 1) = data ++ [0x00#8] := by
  rw [padded, List.range_succ, List.map_append]
  refine congrArg₂ _ (padded_self data) ?_
  simp

theorem terminated_getD (data : Bytes) (x : Nat) : (terminated data).getD x 0#8 = data.getD x 0#8 := by
  rw [terminated]
  by_cases hx : x < data.length
  · rw [List.getD_append _ _ _ _ hx]
  · rw [List.getD_append_right _ _ _ _ (Nat.not_lt.mp hx), List.getD_eq_default _ _ (Nat.not_lt.mp hx)]
    exact (List.getD_eq_getElem?_getD).trans (List.getElem?_getD_replicate_default_eq _ 2 _)

/-- A chunk's bytes are the stream's, then zeros (43_block_io.md R204). -/
theorem chunk_eq_map (stream : Bytes) (k : Nat) :
    chunk stream k = (List.range 16).map fun i => stream.getD (16 * k + i) 0#8 := by
  refine List.ext_getElem (by simp) fun i h₁ h₂ => ?_
  have hi : i < 16 := by simpa using h₁
  rw [List.getElem_map, List.getElem_range]
  by_cases hin : 16 * k + i < stream.length
  · have hleft : i < ((stream.drop (16 * k)).take 16).length := by simp; omega
    simp only [chunk, pad16, List.getElem_append_left hleft, List.getElem_take, List.getElem_drop,
      List.getD_eq_getElem _ _ hin]
  · have hright : ((stream.drop (16 * k)).take 16).length ≤ i := by simp; omega
    simp only [chunk, pad16, List.getElem_append_right hright, List.getElem_replicate,
      List.getD_eq_default _ _ (Nat.not_lt.mp hin)]

/-- Chunk `k` of the terminated data: its bytes are the data's, then zeros. -/
theorem chunk_terminated (data : Bytes) (k : Nat) :
    chunk (terminated data) k = (List.range 16).map fun i => data.getD (16 * k + i) 0#8 := by
  simp only [chunk_eq_map, terminated_getD]

theorem padded_append_take_chunk (data : Bytes) (k : Nat) {j : Nat} (hj : j ≤ 16) :
    padded data (16 * k) ++ (chunk (terminated data) k).take j = padded data (16 * k + j) := by
  rw [chunk_terminated, ← List.map_take, List.take_range, Nat.min_eq_left hj, padded, padded, List.range_add,
    List.map_append, List.map_map]
  rfl

theorem padded_append_chunk (data : Bytes) (k : Nat) :
    padded data (16 * k) ++ chunk (terminated data) k = padded data (16 * (k + 1)) := by
  have h := padded_append_take_chunk data k (Nat.le_refl 16)
  rwa [List.take_of_length_le (chunk_length _ _).le] at h

section NoZeros

variable {data : Bytes} {k : Nat}

/-- Without zeros in the data, a zero of a chunk lies past the data. -/
theorem chunk_terminated_zero_iff (hdata : 0x00#8 ∉ data) (i : Nat) :
    (chunk (terminated data) k)[i]? = some 0#8 ↔ i < 16 ∧ data.length ≤ 16 * k + i := by
  have hzero : data.getD (16 * k + i) 0#8 = 0#8 ↔ data.length ≤ 16 * k + i := by
    refine ⟨fun h => ?_, fun h => List.getD_eq_default _ _ h⟩
    by_contra hlt
    rw [List.getD_eq_getElem _ _ (Nat.not_le.mp hlt)] at h
    exact hdata (h ▸ List.getElem_mem _)
  by_cases hi : i < 16
  · simp only [chunk_terminated, List.getElem?_map, List.getElem?_range hi, Option.map_some, Option.some_inj, hzero, hi,
      true_and]
  · simp [chunk_terminated, hi]

theorem zeroPairAt_chunk_iff (hdata : 0x00#8 ∉ data) (i : Nat) :
    ZeroPairAt (chunk (terminated data) k) i ↔ i ≤ 14 ∧ data.length ≤ 16 * k + i := by
  rw [ZeroPairAt, chunk_terminated_zero_iff hdata, chunk_terminated_zero_iff hdata]
  omega

theorem findPair_chunk_eq_some (hdata : 0x00#8 ∉ data) (h : data.length ≤ 16 * k + 14) :
    findPair (chunk (terminated data) k) = some (data.length - 16 * k) := by
  refine (findPair_eq_some_iff _ _).mpr ⟨(zeroPairAt_chunk_iff hdata _).mpr (by omega), fun j hj hpair => ?_⟩
  have hpast := ((zeroPairAt_chunk_iff hdata j).mp hpair).2
  omega

theorem findPair_chunk_eq_none (hdata : 0x00#8 ∉ data) (h : 16 * k + 14 < data.length) :
    findPair (chunk (terminated data) k) = none := by
  refine Option.eq_none_iff_forall_ne_some.mpr fun i hi => ?_
  obtain ⟨hpair, -⟩ := (findPair_eq_some_iff _ i).mp hi
  rw [zeroPairAt_chunk_iff hdata] at hpair
  omega

/-- Read from chunk `k` on, the `n` chunks of a terminated stream give the data, with the zeros up to the last one. -/
theorem readsTo_chunks (hdata : 0x00#8 ∉ data) {n : Nat} (hn : n = (data.length + 2 + 15) / 16) {m : Memory}
    {bs : List Byte} (hne : bs ≠ []) (hlast : k + bs.length = n)
    (hbs : ∀ j b, bs[j]? = some b → readBlock m b = chunk (terminated data) (k + j)) :
    ReadsTo m bs (padded data (16 * k)) (padded data (max data.length (16 * (n - 1)))) := by
  induction bs generalizing k with
  | nil => cases hne rfl
  | cons b bs ih =>
    have hb : readBlock m b = chunk (terminated data) k := hbs 0 b rfl
    cases bs with
    | nil =>
      rw [List.length_singleton] at hlast
      have hpair := findPair_chunk_eq_some (k := k) hdata (by omega)
      have hend : max data.length (16 * (n - 1)) = 16 * k + (data.length - 16 * k) := by omega
      rw [hend, ← padded_append_take_chunk data k (by omega), ← hb]
      exact .pair (hb ▸ hpair)
    | cons c cs =>
      rw [List.length_cons, List.length_cons] at hlast
      refine .goesOn (hb ▸ findPair_chunk_eq_none hdata (by omega)) ?_
      rw [hb, padded_append_chunk]
      refine ih (List.cons_ne_nil _ _) (by rw [List.length_cons]; omega) fun j b' hj => ?_
      rw [hbs (j + 1) b' hj, Nat.succ_add_eq_add_succ]

end NoZeros

/-! ### The round trip -/

/-- Data without zeros, written and read back, comes with the zeros up to the last chunk. -/
theorem runSteps_writeRead {u : Uid} {a : Agent} {rest : List Event} {s : State} {data : Bytes} {n : Nat}
    (hdata : 0x00#8 ∉ data) (hlen : data.length ≤ 16 * budgetBlocks s.cfg.budget - 2)
    (hn : n = (data.length + 2 + 15) / 16)
    (h : Standby u a (.request a 0x0A#8 [.bytes data] :: (resumes a s.cfg.settleMs n ++
      .request a 0x0B#8 [] :: (resumes a s.cfg.settleMs n ++ rest))) s) :
    ∃ t, runSteps (2 * (1 + 3 * n)) s = .next t ∧ t.events = rest ∧
      t.returns = (a, ⟨.bytes (padded data (max data.length (16 * (n - 1)))), .ok, false⟩) ::
        (a, ⟨.bool true, .ok, false⟩) :: s.returns := by
  have hbudget := budgetBlocks_pos s.cfg.budget
  have hblocks : writtenBlocks s.cfg (terminated data).length = (blockSeq s.cfg).take n := by
    rw [hn, writtenBlocks, terminated, List.length_append]
    rfl
  have hcount : ((blockSeq s.cfg).take n).length = n := by
    rw [List.length_take, blockSeq_length h.legal]
    omega
  have hfits : truncated s.cfg (terminated data).length = false := by
    rw [truncated, terminated, List.length_append, decide_eq_false_iff_not, List.length_cons, List.length_singleton]
    omega
  obtain ⟨v, hwrite, hwritten⟩ := runSteps_writeBytes hblocks (hcount.symm ▸ h)
  obtain ⟨hstandby, hcfg, -, hreturns, htag⟩ := hwritten
  have hheld (j : Nat) (b : Byte) (hj : ((blockSeq s.cfg).take n)[j]? = some b) :
      readBlock v.tag b = chunk (terminated data) (0 + j) := by
    rw [htag, readBlock_writeChunks ((blockSeq_nodup s.cfg).sublist (List.take_sublist _ _)) hj]
  have hread := readsTo_chunks hdata hn (List.length_pos_iff.mp (by omega)) (by rw [hcount, Nat.zero_add]) hheld
  obtain ⟨t, hrun, hevents, hreturns'⟩ := runSteps_readBytes hread (hcfg ▸ List.take_prefix _ _)
    (u := u) (a := a) (evs := rest) (by rw [hcfg]; exact hstandby)
  rw [hcount] at hwrite hrun
  refine ⟨t, ?_, hevents, by rw [hreturns', hreturns, hfits]⟩
  rw [Nat.two_mul, runSteps_add hwrite, hrun]

/-- Settles O59: the zeros up to the last chunk are none. -/
theorem writtenBytesReadBack : Obligations.WrittenBytesReadBack := by
  intro s a u data n rest hlegal hp hc hl htx hidle hcan hdata hlen hmod hn hev
  have hend : max data.length (16 * (n - 1)) = data.length := by omega
  have hrun := runSteps_writeRead hdata hlen hn ⟨⟨hlegal, hp, hc, hcan, hev⟩, hl, htx, hidle⟩
  rwa [hend, padded_self] at hrun

/-- Settles O60: the last chunk is the terminator's second zero, and its first one is read back. -/
theorem straddlingTerminatorAddsAZero : Obligations.StraddlingTerminatorAddsAZero := by
  intro s a u data n rest hlegal hp hc hl htx hidle hcan hdata hlen hmod hn hev
  have hend : max data.length (16 * (n - 1)) = data.length + 1 := by omega
  have hrun := runSteps_writeRead hdata hlen hn ⟨⟨hlegal, hp, hc, hcan, hev⟩, hl, htx, hidle⟩
  rwa [hend, padded_length_succ] at hrun

end Sys2Proof.Machine
end
